-- ==== Sys2Proof/Word.lean ====
section
/-! DEFINITION. The two word widths of the SM83: u8 and u16 (00_scope.md section 3). -/

namespace Sys2Proof

/-- A `u8`: a register slot, a memory cell, an opcode or an immediate byte. -/
abbrev Byte := BitVec 8

/-- A `u16`: an address, a register pair, SP, PC or a packed immediate. -/
abbrev Word := BitVec 16

end Sys2Proof
end

