-- ==== Sys2Proof/Machine/Codec.lean ====
section
/-! DEFINITION. The endian codec (00_scope.md R7) and the extensions of R6. -/

namespace Sys2Proof

/-- `pack(high, low) = high * 256 + low` (00_scope.md R7): the high byte is given first. -/
def pack (high low : Byte) : Word := high ++ low

/-- The first component of `unpack(w)`: `w[15:8]` (00_scope.md R7). -/
def hiByte (w : Word) : Byte := w.extractLsb' 8 8

/-- The second component of `unpack(w)`: `w[7:0]` (00_scope.md R7). -/
def loByte (w : Word) : Byte := w.extractLsb' 0 8

/-- `sext_16(v)` (00_scope.md R6), the displacement `e8` as a u16 (30_encoding.md R103). -/
def sext16 (v : Byte) : Word := v.signExtend 16

/-- `zext_16(v)` (00_scope.md R6). -/
def zext16 (v : Byte) : Word := v.zeroExtend 16

end Sys2Proof
end

