-- ==== Sys2Proof/WellFormed.lean ====
section
/-! DEFINITION. Which terms of `Instr` are an instruction as it stands in memory. -/

namespace Sys2Proof

/-- Whether the term is the reading of its own bytes. PREFIX CB alone is not: its two bytes spell the
extended instruction whose routine it runs (30_encoding.md R111, 46_system.md R455). Every other row is,
the eleven unassigned bytes included, each of which has a descriptor of its own (30_encoding.md R115). -/
def Instr.wf (i : Instr) : Bool :=
  match i with
  | .prefix_cb _ => false
  | _ => true

end Sys2Proof
end

