-- ==== Sys2Proof/Decode.lean ====
section
/-! DEFINITION. The encoding (30_encoding.md): the operand fields, the rows of the opcode table by operand
field, the decoder by fields (R114, R116), the length of an instruction (R117), and after it the encoder
written from the opcode maps (R108, R114). -/

namespace Sys2Proof

/-! ### Operand fields -/

/-- The `r8` field (30_encoding.md R104). -/
def r8Field (k : Nat) : Operand8 :=
  match k with
  | 0 => .reg .b
  | 1 => .reg .c
  | 2 => .reg .d
  | 3 => .reg .e
  | 4 => .reg .h
  | 5 => .reg .l
  | 6 => .memHl
  | _ => .reg .a

/-- The `r16` field (30_encoding.md R105). -/
def r16Field (k : Nat) : Pair :=
  match k with
  | 0 => .bc
  | 1 => .de
  | 2 => .hl
  | _ => .sp

/-- The `r16stk` field (30_encoding.md R106). -/
def r16stkField (k : Nat) : StkPair :=
  match k with
  | 0 => .bc
  | 1 => .de
  | 2 => .hl
  | _ => .af

/-- The `cc` field (30_encoding.md R107). -/
def ccField (k : Nat) : Cond :=
  match k with
  | 0 => .nz
  | 1 => .z
  | 2 => .nc
  | _ => .c

/-- The operation field of the ALU rows (30_encoding.md R116). -/
def aluField (k : Nat) : AluOp :=
  match k with
  | 0 => .add
  | 1 => .adc
  | 2 => .sub
  | 3 => .sbc
  | 4 => .and
  | 5 => .xor
  | 6 => .or
  | _ => .cp

/-- The operation field of the 0xCB rows with x = 0 (30_encoding.md R114). -/
def shiftField (k : Nat) : ShiftOp :=
  match k with
  | 0 => .rlc
  | 1 => .rrc
  | 2 => .rl
  | 3 => .rr
  | 4 => .sla
  | 5 => .sra
  | 6 => .swap
  | _ => .srl

/-- A three-bit field as a bit index or an RST number. -/
def indexField (k : Nat) : Fin 8 := Fin.ofNat 8 k

/-- `x = op[7:6]` (00_scope.md R11). -/
def fieldX (op : Byte) : Nat := op.toNat / 64

/-- `y = op[5:3]` (00_scope.md R11). -/
def fieldY (op : Byte) : Nat := op.toNat / 8 % 8

/-- `z = op[2:0]` (00_scope.md R11). -/
def fieldZ (op : Byte) : Nat := op.toNat % 8

/-! ### The rows of the table by operand field -/

/-- `LD r,r'` (40_loads_8bit.md R150). -/
def rowLdRR (dst : Reg8) (src : Reg8) : Instr :=
  match dst, src with
  | .b, .b => .ld_b_b
  | .b, .c => .ld_b_c
  | .b, .d => .ld_b_d
  | .b, .e => .ld_b_e
  | .b, .h => .ld_b_h
  | .b, .l => .ld_b_l
  | .b, .a => .ld_b_a
  | .c, .b => .ld_c_b
  | .c, .c => .ld_c_c
  | .c, .d => .ld_c_d
  | .c, .e => .ld_c_e
  | .c, .h => .ld_c_h
  | .c, .l => .ld_c_l
  | .c, .a => .ld_c_a
  | .d, .b => .ld_d_b
  | .d, .c => .ld_d_c
  | .d, .d => .ld_d_d
  | .d, .e => .ld_d_e
  | .d, .h => .ld_d_h
  | .d, .l => .ld_d_l
  | .d, .a => .ld_d_a
  | .e, .b => .ld_e_b
  | .e, .c => .ld_e_c
  | .e, .d => .ld_e_d
  | .e, .e => .ld_e_e
  | .e, .h => .ld_e_h
  | .e, .l => .ld_e_l
  | .e, .a => .ld_e_a
  | .h, .b => .ld_h_b
  | .h, .c => .ld_h_c
  | .h, .d => .ld_h_d
  | .h, .e => .ld_h_e
  | .h, .h => .ld_h_h
  | .h, .l => .ld_h_l
  | .h, .a => .ld_h_a
  | .l, .b => .ld_l_b
  | .l, .c => .ld_l_c
  | .l, .d => .ld_l_d
  | .l, .e => .ld_l_e
  | .l, .h => .ld_l_h
  | .l, .l => .ld_l_l
  | .l, .a => .ld_l_a
  | .a, .b => .ld_a_b
  | .a, .c => .ld_a_c
  | .a, .d => .ld_a_d
  | .a, .e => .ld_a_e
  | .a, .h => .ld_a_h
  | .a, .l => .ld_a_l
  | .a, .a => .ld_a_a

/-- `LD r,n` (40_loads_8bit.md R151). -/
def rowLdRN (dst : Reg8) (n : Byte) : Instr :=
  match dst with
  | .b => .ld_b_n n
  | .c => .ld_c_n n
  | .d => .ld_d_n n
  | .e => .ld_e_n n
  | .h => .ld_h_n n
  | .l => .ld_l_n n
  | .a => .ld_a_n n

/-- `LD r,[HL]` (40_loads_8bit.md R152). -/
def rowLdRHl (dst : Reg8) : Instr :=
  match dst with
  | .b => .ld_b_mhl
  | .c => .ld_c_mhl
  | .d => .ld_d_mhl
  | .e => .ld_e_mhl
  | .h => .ld_h_mhl
  | .l => .ld_l_mhl
  | .a => .ld_a_mhl

/-- `LD [HL],r` (40_loads_8bit.md R153). -/
def rowLdHlR (src : Reg8) : Instr :=
  match src with
  | .b => .ld_mhl_b
  | .c => .ld_mhl_c
  | .d => .ld_mhl_d
  | .e => .ld_mhl_e
  | .h => .ld_mhl_h
  | .l => .ld_mhl_l
  | .a => .ld_mhl_a

/-- `LD rr,nn` (41_loads_16bit.md R200). -/
def rowLdPairNn (p : Pair) (nn : Word) : Instr :=
  match p with
  | .bc => .ld_bc_nn nn
  | .de => .ld_de_nn nn
  | .hl => .ld_hl_nn nn
  | .sp => .ld_sp_nn nn

/-- `PUSH rr` (41_loads_16bit.md R203). -/
def rowPush (p : StkPair) : Instr :=
  match p with
  | .bc => .push_bc
  | .de => .push_de
  | .hl => .push_hl
  | .af => .push_af

/-- `POP rr` (41_loads_16bit.md R204). -/
def rowPop (p : StkPair) : Instr :=
  match p with
  | .bc => .pop_bc
  | .de => .pop_de
  | .hl => .pop_hl
  | .af => .pop_af

/-- The register form of the two-operand operations (42_alu_8bit.md R260, R263, R266, R269, R272, R275, R278, R281). -/
def rowAluR (op : AluOp) (src : Reg8) : Instr :=
  match op, src with
  | .add, .b => .add_a_b
  | .add, .c => .add_a_c
  | .add, .d => .add_a_d
  | .add, .e => .add_a_e
  | .add, .h => .add_a_h
  | .add, .l => .add_a_l
  | .add, .a => .add_a_a
  | .adc, .b => .adc_a_b
  | .adc, .c => .adc_a_c
  | .adc, .d => .adc_a_d
  | .adc, .e => .adc_a_e
  | .adc, .h => .adc_a_h
  | .adc, .l => .adc_a_l
  | .adc, .a => .adc_a_a
  | .sub, .b => .sub_b
  | .sub, .c => .sub_c
  | .sub, .d => .sub_d
  | .sub, .e => .sub_e
  | .sub, .h => .sub_h
  | .sub, .l => .sub_l
  | .sub, .a => .sub_a
  | .sbc, .b => .sbc_a_b
  | .sbc, .c => .sbc_a_c
  | .sbc, .d => .sbc_a_d
  | .sbc, .e => .sbc_a_e
  | .sbc, .h => .sbc_a_h
  | .sbc, .l => .sbc_a_l
  | .sbc, .a => .sbc_a_a
  | .and, .b => .and_b
  | .and, .c => .and_c
  | .and, .d => .and_d
  | .and, .e => .and_e
  | .and, .h => .and_h
  | .and, .l => .and_l
  | .and, .a => .and_a
  | .xor, .b => .xor_b
  | .xor, .c => .xor_c
  | .xor, .d => .xor_d
  | .xor, .e => .xor_e
  | .xor, .h => .xor_h
  | .xor, .l => .xor_l
  | .xor, .a => .xor_a
  | .or, .b => .or_b
  | .or, .c => .or_c
  | .or, .d => .or_d
  | .or, .e => .or_e
  | .or, .h => .or_h
  | .or, .l => .or_l
  | .or, .a => .or_a
  | .cp, .b => .cp_b
  | .cp, .c => .cp_c
  | .cp, .d => .cp_d
  | .cp, .e => .cp_e
  | .cp, .h => .cp_h
  | .cp, .l => .cp_l
  | .cp, .a => .cp_a

/-- The `[HL]` form of the two-operand operations (42_alu_8bit.md R261, R264, R267, R270, R273, R276, R279, R282). -/
def rowAluHl (op : AluOp) : Instr :=
  match op with
  | .add => .add_a_mhl
  | .adc => .adc_a_mhl
  | .sub => .sub_mhl
  | .sbc => .sbc_a_mhl
  | .and => .and_mhl
  | .xor => .xor_mhl
  | .or => .or_mhl
  | .cp => .cp_mhl

/-- The immediate form of the two-operand operations (42_alu_8bit.md R262, R265, R268, R271, R274, R277, R280, R283). -/
def rowAluN (op : AluOp) (n : Byte) : Instr :=
  match op with
  | .add => .add_a_n n
  | .adc => .adc_a_n n
  | .sub => .sub_n n
  | .sbc => .sbc_a_n n
  | .and => .and_n n
  | .xor => .xor_n n
  | .or => .or_n n
  | .cp => .cp_n n

/-- `INC r` (42_alu_8bit.md R284). -/
def rowIncR (r : Reg8) : Instr :=
  match r with
  | .b => .inc_b
  | .c => .inc_c
  | .d => .inc_d
  | .e => .inc_e
  | .h => .inc_h
  | .l => .inc_l
  | .a => .inc_a

/-- `DEC r` (42_alu_8bit.md R286). -/
def rowDecR (r : Reg8) : Instr :=
  match r with
  | .b => .dec_b
  | .c => .dec_c
  | .d => .dec_d
  | .e => .dec_e
  | .h => .dec_h
  | .l => .dec_l
  | .a => .dec_a

/-- `ADD HL,rr` (43_alu_16bit.md R301). -/
def rowAddHl (p : Pair) : Instr :=
  match p with
  | .bc => .add_hl_bc
  | .de => .add_hl_de
  | .hl => .add_hl_hl
  | .sp => .add_hl_sp

/-- `INC rr` (43_alu_16bit.md R302). -/
def rowIncPair (p : Pair) : Instr :=
  match p with
  | .bc => .inc_bc
  | .de => .inc_de
  | .hl => .inc_hl
  | .sp => .inc_sp

/-- `DEC rr` (43_alu_16bit.md R303). -/
def rowDecPair (p : Pair) : Instr :=
  match p with
  | .bc => .dec_bc
  | .de => .dec_de
  | .hl => .dec_hl
  | .sp => .dec_sp

/-- `JP cc,nn` (45_control.md R401). -/
def rowJpCc (cc : Cond) (nn : Word) : Instr :=
  match cc with
  | .nz => .jp_nz_nn nn
  | .z => .jp_z_nn nn
  | .nc => .jp_nc_nn nn
  | .c => .jp_c_nn nn

/-- `JR cc,e8` (45_control.md R404). -/
def rowJrCc (cc : Cond) (e : Byte) : Instr :=
  match cc with
  | .nz => .jr_nz_e8 e
  | .z => .jr_z_e8 e
  | .nc => .jr_nc_e8 e
  | .c => .jr_c_e8 e

/-- `CALL cc,nn` (45_control.md R406). -/
def rowCallCc (cc : Cond) (nn : Word) : Instr :=
  match cc with
  | .nz => .call_nz_nn nn
  | .z => .call_z_nn nn
  | .nc => .call_nc_nn nn
  | .c => .call_c_nn nn

/-- `RET cc` (45_control.md R408). -/
def rowRetCc (cc : Cond) : Instr :=
  match cc with
  | .nz => .ret_nz
  | .z => .ret_z
  | .nc => .ret_nc
  | .c => .ret_c

/-- `RST t` with t = 8 × y (45_control.md R410). -/
def rowRst (y : Fin 8) : Instr :=
  match y with
  | 0 => .rst_0x00
  | 1 => .rst_0x08
  | 2 => .rst_0x10
  | 3 => .rst_0x18
  | 4 => .rst_0x20
  | 5 => .rst_0x28
  | 6 => .rst_0x30
  | 7 => .rst_0x38

/-- The register form of the 0xCB rotates and shifts (44_rotate_shift_bit.md R355 to R369). -/
def rowShiftR (op : ShiftOp) (r : Reg8) : Instr :=
  match op, r with
  | .rlc, .b => .rlc_b
  | .rlc, .c => .rlc_c
  | .rlc, .d => .rlc_d
  | .rlc, .e => .rlc_e
  | .rlc, .h => .rlc_h
  | .rlc, .l => .rlc_l
  | .rlc, .a => .rlc_a
  | .rrc, .b => .rrc_b
  | .rrc, .c => .rrc_c
  | .rrc, .d => .rrc_d
  | .rrc, .e => .rrc_e
  | .rrc, .h => .rrc_h
  | .rrc, .l => .rrc_l
  | .rrc, .a => .rrc_a
  | .rl, .b => .rl_b
  | .rl, .c => .rl_c
  | .rl, .d => .rl_d
  | .rl, .e => .rl_e
  | .rl, .h => .rl_h
  | .rl, .l => .rl_l
  | .rl, .a => .rl_a
  | .rr, .b => .rr_b
  | .rr, .c => .rr_c
  | .rr, .d => .rr_d
  | .rr, .e => .rr_e
  | .rr, .h => .rr_h
  | .rr, .l => .rr_l
  | .rr, .a => .rr_a
  | .sla, .b => .sla_b
  | .sla, .c => .sla_c
  | .sla, .d => .sla_d
  | .sla, .e => .sla_e
  | .sla, .h => .sla_h
  | .sla, .l => .sla_l
  | .sla, .a => .sla_a
  | .sra, .b => .sra_b
  | .sra, .c => .sra_c
  | .sra, .d => .sra_d
  | .sra, .e => .sra_e
  | .sra, .h => .sra_h
  | .sra, .l => .sra_l
  | .sra, .a => .sra_a
  | .swap, .b => .swap_b
  | .swap, .c => .swap_c
  | .swap, .d => .swap_d
  | .swap, .e => .swap_e
  | .swap, .h => .swap_h
  | .swap, .l => .swap_l
  | .swap, .a => .swap_a
  | .srl, .b => .srl_b
  | .srl, .c => .srl_c
  | .srl, .d => .srl_d
  | .srl, .e => .srl_e
  | .srl, .h => .srl_h
  | .srl, .l => .srl_l
  | .srl, .a => .srl_a

/-- The `[HL]` form of the 0xCB rotates and shifts (44_rotate_shift_bit.md R356 to R370). -/
def rowShiftHl (op : ShiftOp) : Instr :=
  match op with
  | .rlc => .rlc_mhl
  | .rrc => .rrc_mhl
  | .rl => .rl_mhl
  | .rr => .rr_mhl
  | .sla => .sla_mhl
  | .sra => .sra_mhl
  | .swap => .swap_mhl
  | .srl => .srl_mhl

/-- `BIT b,r` (44_rotate_shift_bit.md R371). -/
def rowBitR (b : Fin 8) (r : Reg8) : Instr :=
  match b, r with
  | 0, .b => .bit_0_b
  | 0, .c => .bit_0_c
  | 0, .d => .bit_0_d
  | 0, .e => .bit_0_e
  | 0, .h => .bit_0_h
  | 0, .l => .bit_0_l
  | 0, .a => .bit_0_a
  | 1, .b => .bit_1_b
  | 1, .c => .bit_1_c
  | 1, .d => .bit_1_d
  | 1, .e => .bit_1_e
  | 1, .h => .bit_1_h
  | 1, .l => .bit_1_l
  | 1, .a => .bit_1_a
  | 2, .b => .bit_2_b
  | 2, .c => .bit_2_c
  | 2, .d => .bit_2_d
  | 2, .e => .bit_2_e
  | 2, .h => .bit_2_h
  | 2, .l => .bit_2_l
  | 2, .a => .bit_2_a
  | 3, .b => .bit_3_b
  | 3, .c => .bit_3_c
  | 3, .d => .bit_3_d
  | 3, .e => .bit_3_e
  | 3, .h => .bit_3_h
  | 3, .l => .bit_3_l
  | 3, .a => .bit_3_a
  | 4, .b => .bit_4_b
  | 4, .c => .bit_4_c
  | 4, .d => .bit_4_d
  | 4, .e => .bit_4_e
  | 4, .h => .bit_4_h
  | 4, .l => .bit_4_l
  | 4, .a => .bit_4_a
  | 5, .b => .bit_5_b
  | 5, .c => .bit_5_c
  | 5, .d => .bit_5_d
  | 5, .e => .bit_5_e
  | 5, .h => .bit_5_h
  | 5, .l => .bit_5_l
  | 5, .a => .bit_5_a
  | 6, .b => .bit_6_b
  | 6, .c => .bit_6_c
  | 6, .d => .bit_6_d
  | 6, .e => .bit_6_e
  | 6, .h => .bit_6_h
  | 6, .l => .bit_6_l
  | 6, .a => .bit_6_a
  | 7, .b => .bit_7_b
  | 7, .c => .bit_7_c
  | 7, .d => .bit_7_d
  | 7, .e => .bit_7_e
  | 7, .h => .bit_7_h
  | 7, .l => .bit_7_l
  | 7, .a => .bit_7_a

/-- `BIT b,[HL]` (44_rotate_shift_bit.md R372). -/
def rowBitHl (b : Fin 8) : Instr :=
  match b with
  | 0 => .bit_0_mhl
  | 1 => .bit_1_mhl
  | 2 => .bit_2_mhl
  | 3 => .bit_3_mhl
  | 4 => .bit_4_mhl
  | 5 => .bit_5_mhl
  | 6 => .bit_6_mhl
  | 7 => .bit_7_mhl

/-- `RES b,r` (44_rotate_shift_bit.md R373). -/
def rowResR (b : Fin 8) (r : Reg8) : Instr :=
  match b, r with
  | 0, .b => .res_0_b
  | 0, .c => .res_0_c
  | 0, .d => .res_0_d
  | 0, .e => .res_0_e
  | 0, .h => .res_0_h
  | 0, .l => .res_0_l
  | 0, .a => .res_0_a
  | 1, .b => .res_1_b
  | 1, .c => .res_1_c
  | 1, .d => .res_1_d
  | 1, .e => .res_1_e
  | 1, .h => .res_1_h
  | 1, .l => .res_1_l
  | 1, .a => .res_1_a
  | 2, .b => .res_2_b
  | 2, .c => .res_2_c
  | 2, .d => .res_2_d
  | 2, .e => .res_2_e
  | 2, .h => .res_2_h
  | 2, .l => .res_2_l
  | 2, .a => .res_2_a
  | 3, .b => .res_3_b
  | 3, .c => .res_3_c
  | 3, .d => .res_3_d
  | 3, .e => .res_3_e
  | 3, .h => .res_3_h
  | 3, .l => .res_3_l
  | 3, .a => .res_3_a
  | 4, .b => .res_4_b
  | 4, .c => .res_4_c
  | 4, .d => .res_4_d
  | 4, .e => .res_4_e
  | 4, .h => .res_4_h
  | 4, .l => .res_4_l
  | 4, .a => .res_4_a
  | 5, .b => .res_5_b
  | 5, .c => .res_5_c
  | 5, .d => .res_5_d
  | 5, .e => .res_5_e
  | 5, .h => .res_5_h
  | 5, .l => .res_5_l
  | 5, .a => .res_5_a
  | 6, .b => .res_6_b
  | 6, .c => .res_6_c
  | 6, .d => .res_6_d
  | 6, .e => .res_6_e
  | 6, .h => .res_6_h
  | 6, .l => .res_6_l
  | 6, .a => .res_6_a
  | 7, .b => .res_7_b
  | 7, .c => .res_7_c
  | 7, .d => .res_7_d
  | 7, .e => .res_7_e
  | 7, .h => .res_7_h
  | 7, .l => .res_7_l
  | 7, .a => .res_7_a

/-- `RES b,[HL]` (44_rotate_shift_bit.md R374). -/
def rowResHl (b : Fin 8) : Instr :=
  match b with
  | 0 => .res_0_mhl
  | 1 => .res_1_mhl
  | 2 => .res_2_mhl
  | 3 => .res_3_mhl
  | 4 => .res_4_mhl
  | 5 => .res_5_mhl
  | 6 => .res_6_mhl
  | 7 => .res_7_mhl

/-- `SET b,r` (44_rotate_shift_bit.md R375). -/
def rowSetR (b : Fin 8) (r : Reg8) : Instr :=
  match b, r with
  | 0, .b => .set_0_b
  | 0, .c => .set_0_c
  | 0, .d => .set_0_d
  | 0, .e => .set_0_e
  | 0, .h => .set_0_h
  | 0, .l => .set_0_l
  | 0, .a => .set_0_a
  | 1, .b => .set_1_b
  | 1, .c => .set_1_c
  | 1, .d => .set_1_d
  | 1, .e => .set_1_e
  | 1, .h => .set_1_h
  | 1, .l => .set_1_l
  | 1, .a => .set_1_a
  | 2, .b => .set_2_b
  | 2, .c => .set_2_c
  | 2, .d => .set_2_d
  | 2, .e => .set_2_e
  | 2, .h => .set_2_h
  | 2, .l => .set_2_l
  | 2, .a => .set_2_a
  | 3, .b => .set_3_b
  | 3, .c => .set_3_c
  | 3, .d => .set_3_d
  | 3, .e => .set_3_e
  | 3, .h => .set_3_h
  | 3, .l => .set_3_l
  | 3, .a => .set_3_a
  | 4, .b => .set_4_b
  | 4, .c => .set_4_c
  | 4, .d => .set_4_d
  | 4, .e => .set_4_e
  | 4, .h => .set_4_h
  | 4, .l => .set_4_l
  | 4, .a => .set_4_a
  | 5, .b => .set_5_b
  | 5, .c => .set_5_c
  | 5, .d => .set_5_d
  | 5, .e => .set_5_e
  | 5, .h => .set_5_h
  | 5, .l => .set_5_l
  | 5, .a => .set_5_a
  | 6, .b => .set_6_b
  | 6, .c => .set_6_c
  | 6, .d => .set_6_d
  | 6, .e => .set_6_e
  | 6, .h => .set_6_h
  | 6, .l => .set_6_l
  | 6, .a => .set_6_a
  | 7, .b => .set_7_b
  | 7, .c => .set_7_c
  | 7, .d => .set_7_d
  | 7, .e => .set_7_e
  | 7, .h => .set_7_h
  | 7, .l => .set_7_l
  | 7, .a => .set_7_a

/-- `SET b,[HL]` (44_rotate_shift_bit.md R376). -/
def rowSetHl (b : Fin 8) : Instr :=
  match b with
  | 0 => .set_0_mhl
  | 1 => .set_1_mhl
  | 2 => .set_2_mhl
  | 3 => .set_3_mhl
  | 4 => .set_4_mhl
  | 5 => .set_5_mhl
  | 6 => .set_6_mhl
  | 7 => .set_7_mhl

/-! ### The decoder -/

/-- The extended table, indexed by the byte after 0xCB (30_encoding.md R114). -/
def decodeExtended (sub : Byte) : Instr :=
  match fieldX sub, r8Field (fieldZ sub) with
  | 0, .reg r => rowShiftR (shiftField (fieldY sub)) r
  | 0, .memHl => rowShiftHl (shiftField (fieldY sub))
  | 1, .reg r => rowBitR (indexField (fieldY sub)) r
  | 1, .memHl => rowBitHl (indexField (fieldY sub))
  | 2, .reg r => rowResR (indexField (fieldY sub)) r
  | 2, .memHl => rowResHl (indexField (fieldY sub))
  | _, .reg r => rowSetR (indexField (fieldY sub)) r
  | _, .memHl => rowSetHl (indexField (fieldY sub))

/-- The base rows with x = 0 (30_encoding.md R116); `b1` and `b2` are the bytes after the opcode. -/
def decodeX0 (y z : Nat) (b1 b2 : Byte) : Instr :=
  match z with
  | 0 =>
    match y with
    | 0 => .nop
    | 1 => .ld_mnn_sp (pack b2 b1)
    | 2 => .stop b1
    | 3 => .jr_e8 b1
    | _ => rowJrCc (ccField (y - 4)) b1
  | 1 => if y % 2 = 0 then rowLdPairNn (r16Field (y / 2)) (pack b2 b1) else rowAddHl (r16Field (y / 2))
  | 2 =>
    match y with
    | 0 => .ld_mbc_a
    | 1 => .ld_a_mbc
    | 2 => .ld_mde_a
    | 3 => .ld_a_mde
    | 4 => .ld_mhli_a
    | 5 => .ld_a_mhli
    | 6 => .ld_mhld_a
    | _ => .ld_a_mhld
  | 3 => if y % 2 = 0 then rowIncPair (r16Field (y / 2)) else rowDecPair (r16Field (y / 2))
  | 4 =>
    match r8Field y with
    | .reg r => rowIncR r
    | .memHl => .inc_mhl
  | 5 =>
    match r8Field y with
    | .reg r => rowDecR r
    | .memHl => .dec_mhl
  | 6 =>
    match r8Field y with
    | .reg r => rowLdRN r b1
    | .memHl => .ld_mhl_n b1
  | _ =>
    match y with
    | 0 => .rlca
    | 1 => .rrca
    | 2 => .rla
    | 3 => .rra
    | 4 => .daa
    | 5 => .cpl
    | 6 => .scf
    | _ => .ccf

/-- The base rows with x = 1: the 8-bit loads and HALT (30_encoding.md R116). -/
def decodeX1 (y z : Nat) : Instr :=
  match r8Field y, r8Field z with
  | .reg dst, .reg src => rowLdRR dst src
  | .reg dst, .memHl => rowLdRHl dst
  | .memHl, .reg src => rowLdHlR src
  | .memHl, .memHl => .halt

/-- The base rows with x = 2: the ALU rows (30_encoding.md R116). -/
def decodeX2 (y z : Nat) : Instr :=
  match r8Field z with
  | .reg src => rowAluR (aluField y) src
  | .memHl => rowAluHl (aluField y)

/-- The base rows with x = 3 (30_encoding.md R116), the eleven unassigned bytes among them (R115). -/
def decodeX3 (y z : Nat) (b1 b2 : Byte) : Instr :=
  match z with
  | 0 =>
    match y with
    | 4 => .ldh_mn_a b1
    | 5 => .add_sp_e8 b1
    | 6 => .ldh_a_mn b1
    | 7 => .ld_hl_sp_e8 b1
    | _ => rowRetCc (ccField y)
  | 1 =>
    match y with
    | 1 => .ret
    | 3 => .reti
    | 5 => .jp_hl
    | 7 => .ld_sp_hl
    | _ => rowPop (r16stkField (y / 2))
  | 2 =>
    match y with
    | 4 => .ldh_mc_a
    | 5 => .ld_mnn_a (pack b2 b1)
    | 6 => .ldh_a_mc
    | 7 => .ld_a_mnn (pack b2 b1)
    | _ => rowJpCc (ccField y) (pack b2 b1)
  | 3 =>
    match y with
    | 0 => .jp_nn (pack b2 b1)
    | 1 => decodeExtended b1
    | 2 => .unassigned_d3
    | 3 => .unassigned_db
    | 4 => .unassigned_e3
    | 5 => .unassigned_eb
    | 6 => .di
    | _ => .ei
  | 4 =>
    match y with
    | 4 => .unassigned_e4
    | 5 => .unassigned_ec
    | 6 => .unassigned_f4
    | 7 => .unassigned_fc
    | _ => rowCallCc (ccField y) (pack b2 b1)
  | 5 =>
    match y with
    | 1 => .call_nn (pack b2 b1)
    | 3 => .unassigned_dd
    | 5 => .unassigned_ed
    | 7 => .unassigned_fd
    | _ => rowPush (r16stkField (y / 2))
  | 6 => rowAluN (aluField y) b1
  | _ => rowRst (indexField y)

/-- The descriptor table (30_encoding.md R119): the instruction whose first byte is `op` and whose next
two bytes are `b1` and `b2`; the bytes past its length do not matter. Every opcode byte has an entry. -/
def decodeFetched (op b1 b2 : Byte) : Instr :=
  match fieldX op with
  | 0 => decodeX0 (fieldY op) (fieldZ op) b1 b2
  | 1 => decodeX1 (fieldY op) (fieldZ op)
  | 2 => decodeX2 (fieldY op) (fieldZ op)
  | _ => decodeX3 (fieldY op) (fieldZ op) b1 b2

/-- The length in bytes, told from the first byte alone (30_encoding.md R117). -/
def opLength (op : Byte) : Nat :=
  if [0x01, 0x11, 0x21, 0x31, 0x08, 0xC2, 0xC3, 0xC4, 0xCA, 0xCC, 0xCD, 0xD2, 0xD4, 0xDA, 0xDC, 0xEA, 0xFA].contains op.toNat then 3
  else if [0x06, 0x0E, 0x16, 0x1E, 0x26, 0x2E, 0x36, 0x3E, 0x10, 0x18, 0x20, 0x28, 0x30, 0x38, 0xC6, 0xCE, 0xD6, 0xDE, 0xE6, 0xEE, 0xF6, 0xFE, 0xE0, 0xE8, 0xF0, 0xF8, 0xCB].contains op.toNat then 2
  else 1

/-- Why bytes spell no instruction. Every byte has a descriptor, so only missing bytes do. -/
inductive DecodeError where
  /-- There is no byte at all. -/
  | noBytes
  /-- The opcode's immediate or sub-opcode bytes are missing. -/
  | truncated (op : Byte)
  deriving DecidableEq, Repr

/-- Decoding a list of bytes: the instruction at its head and the bytes after it. -/
def decode (bytes : List Byte) : Except DecodeError (Instr × List Byte) :=
  match bytes with
  | [] => .error .noBytes
  | op :: rest =>
    if rest.length + 1 < opLength op then .error (.truncated op)
    else .ok (decodeFetched op (rest.getD 0 0) (rest.getD 1 0), rest.drop (opLength op - 1))

/-! ### Words numbered as spec/opcode_table.json numbers them -/

/-- The three bytes, in memory order, of an instruction whose bits the table numbers as `w`: the low byte
first, but for a 0xCB row, whose two bytes the table writes as one number with 0xCB in bits 15..8 (log 10).
Bits from `nbits` up are 0. -/
def tableBytes (nbits w : Nat) : List Byte :=
  let v := w % 2 ^ nbits
  if v / 256 = 0xCB then [0xCB, BitVec.ofNat 8 v, 0]
  else [BitVec.ofNat 8 v, BitVec.ofNat 8 (v / 256), BitVec.ofNat 8 (v / 65536)]

/-- What the decoder reads from an instruction whose bits the table numbers as `w`. -/
def decodeTableWord (nbits w : Nat) : Option Instr :=
  match decode (tableBytes nbits w) with
  | .ok (i, _) => some i
  | .error _ => none

/-! ### The encoder -/

/-- The bytes of an instruction, from the opcode maps (30_encoding.md R108, R114); a 16-bit immediate goes
low byte first (R102). -/
def encode (i : Instr) : List Byte :=
  match i with
  | .nop => [0x00]
  | .ld_bc_nn nn => [0x01, loByte nn, hiByte nn]
  | .ld_mbc_a => [0x02]
  | .inc_bc => [0x03]
  | .inc_b => [0x04]
  | .dec_b => [0x05]
  | .ld_b_n n => [0x06, n]
  | .rlca => [0x07]
  | .ld_mnn_sp nn => [0x08, loByte nn, hiByte nn]
  | .add_hl_bc => [0x09]
  | .ld_a_mbc => [0x0A]
  | .dec_bc => [0x0B]
  | .inc_c => [0x0C]
  | .dec_c => [0x0D]
  | .ld_c_n n => [0x0E, n]
  | .rrca => [0x0F]
  | .stop n => [0x10, n]
  | .ld_de_nn nn => [0x11, loByte nn, hiByte nn]
  | .ld_mde_a => [0x12]
  | .inc_de => [0x13]
  | .inc_d => [0x14]
  | .dec_d => [0x15]
  | .ld_d_n n => [0x16, n]
  | .rla => [0x17]
  | .jr_e8 e => [0x18, e]
  | .add_hl_de => [0x19]
  | .ld_a_mde => [0x1A]
  | .dec_de => [0x1B]
  | .inc_e => [0x1C]
  | .dec_e => [0x1D]
  | .ld_e_n n => [0x1E, n]
  | .rra => [0x1F]
  | .jr_nz_e8 e => [0x20, e]
  | .ld_hl_nn nn => [0x21, loByte nn, hiByte nn]
  | .ld_mhli_a => [0x22]
  | .inc_hl => [0x23]
  | .inc_h => [0x24]
  | .dec_h => [0x25]
  | .ld_h_n n => [0x26, n]
  | .daa => [0x27]
  | .jr_z_e8 e => [0x28, e]
  | .add_hl_hl => [0x29]
  | .ld_a_mhli => [0x2A]
  | .dec_hl => [0x2B]
  | .inc_l => [0x2C]
  | .dec_l => [0x2D]
  | .ld_l_n n => [0x2E, n]
  | .cpl => [0x2F]
  | .jr_nc_e8 e => [0x30, e]
  | .ld_sp_nn nn => [0x31, loByte nn, hiByte nn]
  | .ld_mhld_a => [0x32]
  | .inc_sp => [0x33]
  | .inc_mhl => [0x34]
  | .dec_mhl => [0x35]
  | .ld_mhl_n n => [0x36, n]
  | .scf => [0x37]
  | .jr_c_e8 e => [0x38, e]
  | .add_hl_sp => [0x39]
  | .ld_a_mhld => [0x3A]
  | .dec_sp => [0x3B]
  | .inc_a => [0x3C]
  | .dec_a => [0x3D]
  | .ld_a_n n => [0x3E, n]
  | .ccf => [0x3F]
  | .ld_b_b => [0x40]
  | .ld_b_c => [0x41]
  | .ld_b_d => [0x42]
  | .ld_b_e => [0x43]
  | .ld_b_h => [0x44]
  | .ld_b_l => [0x45]
  | .ld_b_mhl => [0x46]
  | .ld_b_a => [0x47]
  | .ld_c_b => [0x48]
  | .ld_c_c => [0x49]
  | .ld_c_d => [0x4A]
  | .ld_c_e => [0x4B]
  | .ld_c_h => [0x4C]
  | .ld_c_l => [0x4D]
  | .ld_c_mhl => [0x4E]
  | .ld_c_a => [0x4F]
  | .ld_d_b => [0x50]
  | .ld_d_c => [0x51]
  | .ld_d_d => [0x52]
  | .ld_d_e => [0x53]
  | .ld_d_h => [0x54]
  | .ld_d_l => [0x55]
  | .ld_d_mhl => [0x56]
  | .ld_d_a => [0x57]
  | .ld_e_b => [0x58]
  | .ld_e_c => [0x59]
  | .ld_e_d => [0x5A]
  | .ld_e_e => [0x5B]
  | .ld_e_h => [0x5C]
  | .ld_e_l => [0x5D]
  | .ld_e_mhl => [0x5E]
  | .ld_e_a => [0x5F]
  | .ld_h_b => [0x60]
  | .ld_h_c => [0x61]
  | .ld_h_d => [0x62]
  | .ld_h_e => [0x63]
  | .ld_h_h => [0x64]
  | .ld_h_l => [0x65]
  | .ld_h_mhl => [0x66]
  | .ld_h_a => [0x67]
  | .ld_l_b => [0x68]
  | .ld_l_c => [0x69]
  | .ld_l_d => [0x6A]
  | .ld_l_e => [0x6B]
  | .ld_l_h => [0x6C]
  | .ld_l_l => [0x6D]
  | .ld_l_mhl => [0x6E]
  | .ld_l_a => [0x6F]
  | .ld_mhl_b => [0x70]
  | .ld_mhl_c => [0x71]
  | .ld_mhl_d => [0x72]
  | .ld_mhl_e => [0x73]
  | .ld_mhl_h => [0x74]
  | .ld_mhl_l => [0x75]
  | .halt => [0x76]
  | .ld_mhl_a => [0x77]
  | .ld_a_b => [0x78]
  | .ld_a_c => [0x79]
  | .ld_a_d => [0x7A]
  | .ld_a_e => [0x7B]
  | .ld_a_h => [0x7C]
  | .ld_a_l => [0x7D]
  | .ld_a_mhl => [0x7E]
  | .ld_a_a => [0x7F]
  | .add_a_b => [0x80]
  | .add_a_c => [0x81]
  | .add_a_d => [0x82]
  | .add_a_e => [0x83]
  | .add_a_h => [0x84]
  | .add_a_l => [0x85]
  | .add_a_mhl => [0x86]
  | .add_a_a => [0x87]
  | .adc_a_b => [0x88]
  | .adc_a_c => [0x89]
  | .adc_a_d => [0x8A]
  | .adc_a_e => [0x8B]
  | .adc_a_h => [0x8C]
  | .adc_a_l => [0x8D]
  | .adc_a_mhl => [0x8E]
  | .adc_a_a => [0x8F]
  | .sub_b => [0x90]
  | .sub_c => [0x91]
  | .sub_d => [0x92]
  | .sub_e => [0x93]
  | .sub_h => [0x94]
  | .sub_l => [0x95]
  | .sub_mhl => [0x96]
  | .sub_a => [0x97]
  | .sbc_a_b => [0x98]
  | .sbc_a_c => [0x99]
  | .sbc_a_d => [0x9A]
  | .sbc_a_e => [0x9B]
  | .sbc_a_h => [0x9C]
  | .sbc_a_l => [0x9D]
  | .sbc_a_mhl => [0x9E]
  | .sbc_a_a => [0x9F]
  | .and_b => [0xA0]
  | .and_c => [0xA1]
  | .and_d => [0xA2]
  | .and_e => [0xA3]
  | .and_h => [0xA4]
  | .and_l => [0xA5]
  | .and_mhl => [0xA6]
  | .and_a => [0xA7]
  | .xor_b => [0xA8]
  | .xor_c => [0xA9]
  | .xor_d => [0xAA]
  | .xor_e => [0xAB]
  | .xor_h => [0xAC]
  | .xor_l => [0xAD]
  | .xor_mhl => [0xAE]
  | .xor_a => [0xAF]
  | .or_b => [0xB0]
  | .or_c => [0xB1]
  | .or_d => [0xB2]
  | .or_e => [0xB3]
  | .or_h => [0xB4]
  | .or_l => [0xB5]
  | .or_mhl => [0xB6]
  | .or_a => [0xB7]
  | .cp_b => [0xB8]
  | .cp_c => [0xB9]
  | .cp_d => [0xBA]
  | .cp_e => [0xBB]
  | .cp_h => [0xBC]
  | .cp_l => [0xBD]
  | .cp_mhl => [0xBE]
  | .cp_a => [0xBF]
  | .ret_nz => [0xC0]
  | .pop_bc => [0xC1]
  | .jp_nz_nn nn => [0xC2, loByte nn, hiByte nn]
  | .jp_nn nn => [0xC3, loByte nn, hiByte nn]
  | .call_nz_nn nn => [0xC4, loByte nn, hiByte nn]
  | .push_bc => [0xC5]
  | .add_a_n n => [0xC6, n]
  | .rst_0x00 => [0xC7]
  | .ret_z => [0xC8]
  | .ret => [0xC9]
  | .jp_z_nn nn => [0xCA, loByte nn, hiByte nn]
  | .prefix_cb sub => [0xCB, sub]
  | .call_z_nn nn => [0xCC, loByte nn, hiByte nn]
  | .call_nn nn => [0xCD, loByte nn, hiByte nn]
  | .adc_a_n n => [0xCE, n]
  | .rst_0x08 => [0xCF]
  | .ret_nc => [0xD0]
  | .pop_de => [0xD1]
  | .jp_nc_nn nn => [0xD2, loByte nn, hiByte nn]
  | .unassigned_d3 => [0xD3]
  | .call_nc_nn nn => [0xD4, loByte nn, hiByte nn]
  | .push_de => [0xD5]
  | .sub_n n => [0xD6, n]
  | .rst_0x10 => [0xD7]
  | .ret_c => [0xD8]
  | .reti => [0xD9]
  | .jp_c_nn nn => [0xDA, loByte nn, hiByte nn]
  | .unassigned_db => [0xDB]
  | .call_c_nn nn => [0xDC, loByte nn, hiByte nn]
  | .unassigned_dd => [0xDD]
  | .sbc_a_n n => [0xDE, n]
  | .rst_0x18 => [0xDF]
  | .ldh_mn_a n => [0xE0, n]
  | .pop_hl => [0xE1]
  | .ldh_mc_a => [0xE2]
  | .unassigned_e3 => [0xE3]
  | .unassigned_e4 => [0xE4]
  | .push_hl => [0xE5]
  | .and_n n => [0xE6, n]
  | .rst_0x20 => [0xE7]
  | .add_sp_e8 e => [0xE8, e]
  | .jp_hl => [0xE9]
  | .ld_mnn_a nn => [0xEA, loByte nn, hiByte nn]
  | .unassigned_eb => [0xEB]
  | .unassigned_ec => [0xEC]
  | .unassigned_ed => [0xED]
  | .xor_n n => [0xEE, n]
  | .rst_0x28 => [0xEF]
  | .ldh_a_mn n => [0xF0, n]
  | .pop_af => [0xF1]
  | .ldh_a_mc => [0xF2]
  | .di => [0xF3]
  | .unassigned_f4 => [0xF4]
  | .push_af => [0xF5]
  | .or_n n => [0xF6, n]
  | .rst_0x30 => [0xF7]
  | .ld_hl_sp_e8 e => [0xF8, e]
  | .ld_sp_hl => [0xF9]
  | .ld_a_mnn nn => [0xFA, loByte nn, hiByte nn]
  | .ei => [0xFB]
  | .unassigned_fc => [0xFC]
  | .unassigned_fd => [0xFD]
  | .cp_n n => [0xFE, n]
  | .rst_0x38 => [0xFF]
  | .rlc_b => [0xCB, 0x00]
  | .rlc_c => [0xCB, 0x01]
  | .rlc_d => [0xCB, 0x02]
  | .rlc_e => [0xCB, 0x03]
  | .rlc_h => [0xCB, 0x04]
  | .rlc_l => [0xCB, 0x05]
  | .rlc_mhl => [0xCB, 0x06]
  | .rlc_a => [0xCB, 0x07]
  | .rrc_b => [0xCB, 0x08]
  | .rrc_c => [0xCB, 0x09]
  | .rrc_d => [0xCB, 0x0A]
  | .rrc_e => [0xCB, 0x0B]
  | .rrc_h => [0xCB, 0x0C]
  | .rrc_l => [0xCB, 0x0D]
  | .rrc_mhl => [0xCB, 0x0E]
  | .rrc_a => [0xCB, 0x0F]
  | .rl_b => [0xCB, 0x10]
  | .rl_c => [0xCB, 0x11]
  | .rl_d => [0xCB, 0x12]
  | .rl_e => [0xCB, 0x13]
  | .rl_h => [0xCB, 0x14]
  | .rl_l => [0xCB, 0x15]
  | .rl_mhl => [0xCB, 0x16]
  | .rl_a => [0xCB, 0x17]
  | .rr_b => [0xCB, 0x18]
  | .rr_c => [0xCB, 0x19]
  | .rr_d => [0xCB, 0x1A]
  | .rr_e => [0xCB, 0x1B]
  | .rr_h => [0xCB, 0x1C]
  | .rr_l => [0xCB, 0x1D]
  | .rr_mhl => [0xCB, 0x1E]
  | .rr_a => [0xCB, 0x1F]
  | .sla_b => [0xCB, 0x20]
  | .sla_c => [0xCB, 0x21]
  | .sla_d => [0xCB, 0x22]
  | .sla_e => [0xCB, 0x23]
  | .sla_h => [0xCB, 0x24]
  | .sla_l => [0xCB, 0x25]
  | .sla_mhl => [0xCB, 0x26]
  | .sla_a => [0xCB, 0x27]
  | .sra_b => [0xCB, 0x28]
  | .sra_c => [0xCB, 0x29]
  | .sra_d => [0xCB, 0x2A]
  | .sra_e => [0xCB, 0x2B]
  | .sra_h => [0xCB, 0x2C]
  | .sra_l => [0xCB, 0x2D]
  | .sra_mhl => [0xCB, 0x2E]
  | .sra_a => [0xCB, 0x2F]
  | .swap_b => [0xCB, 0x30]
  | .swap_c => [0xCB, 0x31]
  | .swap_d => [0xCB, 0x32]
  | .swap_e => [0xCB, 0x33]
  | .swap_h => [0xCB, 0x34]
  | .swap_l => [0xCB, 0x35]
  | .swap_mhl => [0xCB, 0x36]
  | .swap_a => [0xCB, 0x37]
  | .srl_b => [0xCB, 0x38]
  | .srl_c => [0xCB, 0x39]
  | .srl_d => [0xCB, 0x3A]
  | .srl_e => [0xCB, 0x3B]
  | .srl_h => [0xCB, 0x3C]
  | .srl_l => [0xCB, 0x3D]
  | .srl_mhl => [0xCB, 0x3E]
  | .srl_a => [0xCB, 0x3F]
  | .bit_0_b => [0xCB, 0x40]
  | .bit_0_c => [0xCB, 0x41]
  | .bit_0_d => [0xCB, 0x42]
  | .bit_0_e => [0xCB, 0x43]
  | .bit_0_h => [0xCB, 0x44]
  | .bit_0_l => [0xCB, 0x45]
  | .bit_0_mhl => [0xCB, 0x46]
  | .bit_0_a => [0xCB, 0x47]
  | .bit_1_b => [0xCB, 0x48]
  | .bit_1_c => [0xCB, 0x49]
  | .bit_1_d => [0xCB, 0x4A]
  | .bit_1_e => [0xCB, 0x4B]
  | .bit_1_h => [0xCB, 0x4C]
  | .bit_1_l => [0xCB, 0x4D]
  | .bit_1_mhl => [0xCB, 0x4E]
  | .bit_1_a => [0xCB, 0x4F]
  | .bit_2_b => [0xCB, 0x50]
  | .bit_2_c => [0xCB, 0x51]
  | .bit_2_d => [0xCB, 0x52]
  | .bit_2_e => [0xCB, 0x53]
  | .bit_2_h => [0xCB, 0x54]
  | .bit_2_l => [0xCB, 0x55]
  | .bit_2_mhl => [0xCB, 0x56]
  | .bit_2_a => [0xCB, 0x57]
  | .bit_3_b => [0xCB, 0x58]
  | .bit_3_c => [0xCB, 0x59]
  | .bit_3_d => [0xCB, 0x5A]
  | .bit_3_e => [0xCB, 0x5B]
  | .bit_3_h => [0xCB, 0x5C]
  | .bit_3_l => [0xCB, 0x5D]
  | .bit_3_mhl => [0xCB, 0x5E]
  | .bit_3_a => [0xCB, 0x5F]
  | .bit_4_b => [0xCB, 0x60]
  | .bit_4_c => [0xCB, 0x61]
  | .bit_4_d => [0xCB, 0x62]
  | .bit_4_e => [0xCB, 0x63]
  | .bit_4_h => [0xCB, 0x64]
  | .bit_4_l => [0xCB, 0x65]
  | .bit_4_mhl => [0xCB, 0x66]
  | .bit_4_a => [0xCB, 0x67]
  | .bit_5_b => [0xCB, 0x68]
  | .bit_5_c => [0xCB, 0x69]
  | .bit_5_d => [0xCB, 0x6A]
  | .bit_5_e => [0xCB, 0x6B]
  | .bit_5_h => [0xCB, 0x6C]
  | .bit_5_l => [0xCB, 0x6D]
  | .bit_5_mhl => [0xCB, 0x6E]
  | .bit_5_a => [0xCB, 0x6F]
  | .bit_6_b => [0xCB, 0x70]
  | .bit_6_c => [0xCB, 0x71]
  | .bit_6_d => [0xCB, 0x72]
  | .bit_6_e => [0xCB, 0x73]
  | .bit_6_h => [0xCB, 0x74]
  | .bit_6_l => [0xCB, 0x75]
  | .bit_6_mhl => [0xCB, 0x76]
  | .bit_6_a => [0xCB, 0x77]
  | .bit_7_b => [0xCB, 0x78]
  | .bit_7_c => [0xCB, 0x79]
  | .bit_7_d => [0xCB, 0x7A]
  | .bit_7_e => [0xCB, 0x7B]
  | .bit_7_h => [0xCB, 0x7C]
  | .bit_7_l => [0xCB, 0x7D]
  | .bit_7_mhl => [0xCB, 0x7E]
  | .bit_7_a => [0xCB, 0x7F]
  | .res_0_b => [0xCB, 0x80]
  | .res_0_c => [0xCB, 0x81]
  | .res_0_d => [0xCB, 0x82]
  | .res_0_e => [0xCB, 0x83]
  | .res_0_h => [0xCB, 0x84]
  | .res_0_l => [0xCB, 0x85]
  | .res_0_mhl => [0xCB, 0x86]
  | .res_0_a => [0xCB, 0x87]
  | .res_1_b => [0xCB, 0x88]
  | .res_1_c => [0xCB, 0x89]
  | .res_1_d => [0xCB, 0x8A]
  | .res_1_e => [0xCB, 0x8B]
  | .res_1_h => [0xCB, 0x8C]
  | .res_1_l => [0xCB, 0x8D]
  | .res_1_mhl => [0xCB, 0x8E]
  | .res_1_a => [0xCB, 0x8F]
  | .res_2_b => [0xCB, 0x90]
  | .res_2_c => [0xCB, 0x91]
  | .res_2_d => [0xCB, 0x92]
  | .res_2_e => [0xCB, 0x93]
  | .res_2_h => [0xCB, 0x94]
  | .res_2_l => [0xCB, 0x95]
  | .res_2_mhl => [0xCB, 0x96]
  | .res_2_a => [0xCB, 0x97]
  | .res_3_b => [0xCB, 0x98]
  | .res_3_c => [0xCB, 0x99]
  | .res_3_d => [0xCB, 0x9A]
  | .res_3_e => [0xCB, 0x9B]
  | .res_3_h => [0xCB, 0x9C]
  | .res_3_l => [0xCB, 0x9D]
  | .res_3_mhl => [0xCB, 0x9E]
  | .res_3_a => [0xCB, 0x9F]
  | .res_4_b => [0xCB, 0xA0]
  | .res_4_c => [0xCB, 0xA1]
  | .res_4_d => [0xCB, 0xA2]
  | .res_4_e => [0xCB, 0xA3]
  | .res_4_h => [0xCB, 0xA4]
  | .res_4_l => [0xCB, 0xA5]
  | .res_4_mhl => [0xCB, 0xA6]
  | .res_4_a => [0xCB, 0xA7]
  | .res_5_b => [0xCB, 0xA8]
  | .res_5_c => [0xCB, 0xA9]
  | .res_5_d => [0xCB, 0xAA]
  | .res_5_e => [0xCB, 0xAB]
  | .res_5_h => [0xCB, 0xAC]
  | .res_5_l => [0xCB, 0xAD]
  | .res_5_mhl => [0xCB, 0xAE]
  | .res_5_a => [0xCB, 0xAF]
  | .res_6_b => [0xCB, 0xB0]
  | .res_6_c => [0xCB, 0xB1]
  | .res_6_d => [0xCB, 0xB2]
  | .res_6_e => [0xCB, 0xB3]
  | .res_6_h => [0xCB, 0xB4]
  | .res_6_l => [0xCB, 0xB5]
  | .res_6_mhl => [0xCB, 0xB6]
  | .res_6_a => [0xCB, 0xB7]
  | .res_7_b => [0xCB, 0xB8]
  | .res_7_c => [0xCB, 0xB9]
  | .res_7_d => [0xCB, 0xBA]
  | .res_7_e => [0xCB, 0xBB]
  | .res_7_h => [0xCB, 0xBC]
  | .res_7_l => [0xCB, 0xBD]
  | .res_7_mhl => [0xCB, 0xBE]
  | .res_7_a => [0xCB, 0xBF]
  | .set_0_b => [0xCB, 0xC0]
  | .set_0_c => [0xCB, 0xC1]
  | .set_0_d => [0xCB, 0xC2]
  | .set_0_e => [0xCB, 0xC3]
  | .set_0_h => [0xCB, 0xC4]
  | .set_0_l => [0xCB, 0xC5]
  | .set_0_mhl => [0xCB, 0xC6]
  | .set_0_a => [0xCB, 0xC7]
  | .set_1_b => [0xCB, 0xC8]
  | .set_1_c => [0xCB, 0xC9]
  | .set_1_d => [0xCB, 0xCA]
  | .set_1_e => [0xCB, 0xCB]
  | .set_1_h => [0xCB, 0xCC]
  | .set_1_l => [0xCB, 0xCD]
  | .set_1_mhl => [0xCB, 0xCE]
  | .set_1_a => [0xCB, 0xCF]
  | .set_2_b => [0xCB, 0xD0]
  | .set_2_c => [0xCB, 0xD1]
  | .set_2_d => [0xCB, 0xD2]
  | .set_2_e => [0xCB, 0xD3]
  | .set_2_h => [0xCB, 0xD4]
  | .set_2_l => [0xCB, 0xD5]
  | .set_2_mhl => [0xCB, 0xD6]
  | .set_2_a => [0xCB, 0xD7]
  | .set_3_b => [0xCB, 0xD8]
  | .set_3_c => [0xCB, 0xD9]
  | .set_3_d => [0xCB, 0xDA]
  | .set_3_e => [0xCB, 0xDB]
  | .set_3_h => [0xCB, 0xDC]
  | .set_3_l => [0xCB, 0xDD]
  | .set_3_mhl => [0xCB, 0xDE]
  | .set_3_a => [0xCB, 0xDF]
  | .set_4_b => [0xCB, 0xE0]
  | .set_4_c => [0xCB, 0xE1]
  | .set_4_d => [0xCB, 0xE2]
  | .set_4_e => [0xCB, 0xE3]
  | .set_4_h => [0xCB, 0xE4]
  | .set_4_l => [0xCB, 0xE5]
  | .set_4_mhl => [0xCB, 0xE6]
  | .set_4_a => [0xCB, 0xE7]
  | .set_5_b => [0xCB, 0xE8]
  | .set_5_c => [0xCB, 0xE9]
  | .set_5_d => [0xCB, 0xEA]
  | .set_5_e => [0xCB, 0xEB]
  | .set_5_h => [0xCB, 0xEC]
  | .set_5_l => [0xCB, 0xED]
  | .set_5_mhl => [0xCB, 0xEE]
  | .set_5_a => [0xCB, 0xEF]
  | .set_6_b => [0xCB, 0xF0]
  | .set_6_c => [0xCB, 0xF1]
  | .set_6_d => [0xCB, 0xF2]
  | .set_6_e => [0xCB, 0xF3]
  | .set_6_h => [0xCB, 0xF4]
  | .set_6_l => [0xCB, 0xF5]
  | .set_6_mhl => [0xCB, 0xF6]
  | .set_6_a => [0xCB, 0xF7]
  | .set_7_b => [0xCB, 0xF8]
  | .set_7_c => [0xCB, 0xF9]
  | .set_7_d => [0xCB, 0xFA]
  | .set_7_e => [0xCB, 0xFB]
  | .set_7_h => [0xCB, 0xFC]
  | .set_7_l => [0xCB, 0xFD]
  | .set_7_mhl => [0xCB, 0xFE]
  | .set_7_a => [0xCB, 0xFF]

end Sys2Proof
end

