-- ==== Sys2Proof/Machine/Flags.lean ====
section
/-! DEFINITION. The result and flag computations: the ALU functions of 42_alu_8bit.md R250 to R257 and
R288, the 16-bit ones of 43_alu_16bit.md R300 and R301, and the shift functions of
44_rotate_shift_bit.md R350. Comparisons are on unbounded naturals (00_scope.md R6). -/

namespace Sys2Proof.Machine

/-- The byte `z*0x80 + n*0x40 + h*0x20 + c*0x10` of `flags(z, n, h, c)` (00_scope.md R8). -/
def packFlags (z n h c : Bool) : Byte :=
  BitVec.ofBool z ++ BitVec.ofBool n ++ BitVec.ofBool h ++ BitVec.ofBool c ++ 0#4

/-- A carry as a number: 1 when set. -/
def carryNat (c : Bool) : Nat := if c then 1 else 0

/-- A result with the four flags. -/
structure AluResult where
  r : Byte
  z : Bool
  n : Bool
  h : Bool
  c : Bool
  deriving DecidableEq, Repr

/-- `add8` (42_alu_8bit.md R250). -/
def add8 (a b : Byte) : AluResult :=
  let r := a + b
  { r := r, z := r == 0, n := false,
    h := decide (a.toNat % 16 + b.toNat % 16 > 0xF), c := decide (a.toNat + b.toNat > 0xFF) }

/-- `adc8` (42_alu_8bit.md R251). -/
def adc8 (a b : Byte) (cin : Bool) : AluResult :=
  let r : Byte := BitVec.ofNat 8 (a.toNat + b.toNat + carryNat cin)
  { r := r, z := r == 0, n := false,
    h := decide (a.toNat % 16 + b.toNat % 16 + carryNat cin > 0xF),
    c := decide (a.toNat + b.toNat + carryNat cin > 0xFF) }

/-- `sub8` (42_alu_8bit.md R252): H and C are borrows. -/
def sub8 (a b : Byte) : AluResult :=
  let r := a - b
  { r := r, z := r == 0, n := true,
    h := decide (a.toNat % 16 < b.toNat % 16), c := decide (a.toNat < b.toNat) }

/-- `sbc8` (42_alu_8bit.md R253). -/
def sbc8 (a b : Byte) (cin : Bool) : AluResult :=
  let r : Byte := a - b - BitVec.ofNat 8 (carryNat cin)
  { r := r, z := r == 0, n := true,
    h := decide (a.toNat % 16 < b.toNat % 16 + carryNat cin),
    c := decide (a.toNat < b.toNat + carryNat cin) }

/-- `and8` (42_alu_8bit.md R254). -/
def and8 (a b : Byte) : AluResult :=
  { r := a &&& b, z := (a &&& b) == 0, n := false, h := true, c := false }

/-- `xor8` (42_alu_8bit.md R255). -/
def xor8 (a b : Byte) : AluResult :=
  { r := a ^^^ b, z := (a ^^^ b) == 0, n := false, h := false, c := false }

/-- `or8` (42_alu_8bit.md R256). -/
def or8 (a b : Byte) : AluResult :=
  { r := a ||| b, z := (a ||| b) == 0, n := false, h := false, c := false }

/-- `inc8` (42_alu_8bit.md R257); the `c` it is given is the carry it leaves unchanged. -/
def inc8 (a : Byte) (c : Bool) : AluResult :=
  let r := a + 1
  { r := r, z := r == 0, n := false, h := decide (a.toNat % 16 + 1 > 0xF), c := c }

/-- `dec8` (42_alu_8bit.md R257); H is tested before the decrement, and the carry is unchanged. -/
def dec8 (a : Byte) (c : Bool) : AluResult :=
  let r := a - 1
  { r := r, z := r == 0, n := true, h := decide (a.toNat % 16 = 0), c := c }

/-- The eight two-operand operations by name (42_alu_8bit.md, operand forms); CP computes SUB. -/
def aluCompute (op : AluOp) (a b : Byte) (cin : Bool) : AluResult :=
  match op with
  | .add => add8 a b
  | .adc => adc8 a b cin
  | .sub => sub8 a b
  | .sbc => sbc8 a b cin
  | .and => and8 a b
  | .xor => xor8 a b
  | .or => or8 a b
  | .cp => sub8 a b

/-- The adjustment of DAA (42_alu_8bit.md R288): the new A and the new carry. -/
def daaAdjust (a : Byte) (n h c : Bool) : Byte × Bool :=
  if n then
    let a1 := if c then a - 0x60 else a
    let a2 := if h then a1 - 0x06 else a1
    (a2, c)
  else
    let high := c || decide (a.toNat > 0x99)
    let a1 := if high then a + 0x60 else a
    let a2 := if h || decide (a1.toNat % 16 > 0x09) then a1 + 0x06 else a1
    (a2, high)

/-- ADD HL,rr (43_alu_16bit.md R301): the sum, the carry out of bit 11 and the carry out of bit 15. -/
def addHl (hl rr : Word) : Word × Bool × Bool :=
  (hl + rr, decide (hl.toNat % 0x1000 + rr.toNat % 0x1000 > 0x0FFF), decide (hl.toNat + rr.toNat > 0xFFFF))

/-- `add_sp_e8` (43_alu_16bit.md R300): the carries are those of the unsigned low-byte addition. -/
def addSpE8 (sp : Word) (b : Byte) : Word × Bool × Bool :=
  (sp + sext16 b, decide (sp.toNat % 16 + b.toNat % 16 > 0x0F), decide (sp.toNat % 256 + b.toNat > 0xFF))

/-- The shift and rotate functions (44_rotate_shift_bit.md R350): the result and the carry out. -/
def shiftCompute (op : ShiftOp) (v : Byte) (cin : Bool) : Byte × Bool :=
  let bit7 := v.getLsbD 7
  let bit0 := v.getLsbD 0
  match op with
  | .rlc => ((v <<< 1) ||| BitVec.ofNat 8 (carryNat bit7), bit7)
  | .rrc => ((v >>> 1) ||| (BitVec.ofNat 8 (carryNat bit0) <<< 7), bit0)
  | .rl => ((v <<< 1) ||| BitVec.ofNat 8 (carryNat cin), bit7)
  | .rr => ((v >>> 1) ||| (BitVec.ofNat 8 (carryNat cin) <<< 7), bit0)
  | .sla => (v <<< 1, bit7)
  | .sra => ((v >>> 1) ||| (v &&& 0x80), bit0)
  | .swap => (((v &&& 0x0F) <<< 4) ||| (v >>> 4), false)
  | .srl => (v >>> 1, bit0)

end Sys2Proof.Machine
end

