-- ==== Sys2Proof/Config.lean ====
section
/-! DEFINITION. What is fixed for the machine (00_scope.md section 3) and the defaults of the launch
parameters that `State.reset` uses. The launch parameters themselves are arguments of
`State.construct` (Machine/Launch.lean). -/

namespace Sys2Proof

/-- What an address nobody stores to answers: the gap 0xFEA0–0xFEFF (20_memory.md R60) and the
external RAM window of a cartridge that declares no RAM bank (R59). -/
def Config.openByte : Byte := 0xFF

/-- What a memory cell that is not listed holds. DESIGN CHOICE (log 2, unsafe for claims about
`State.reset` only): the spec leaves `INIT_MEM` to the launch (20_memory.md R64). -/
def Config.unlistedByte : Byte := 0x00

/-- The default of the launch parameter `HALT_BUG` (00_scope.md section 3; 92_eei_decisions.md D13). -/
def Config.defaultHaltBugMode : Bool := true

end Sys2Proof
end

