-- ==== Sys2Proof/Machine/State.lean ====
section
/-! DEFINITION. The machine's state as plain data (10_state.md R44), the reasons a step can stop, and
the state after reset (10_state.md R42). -/

namespace Sys2Proof.Machine

/-- The step-time faults (60_exceptions.md R500). -/
inductive Fault where
  /-- Raised by fetching one of the eleven unassigned bytes as an opcode (30_encoding.md R115): the
  address it was fetched from and the byte. The spec's own fault, so stopping here is safe. -/
  | invalidOpcode (addr : Word) (byte : Byte)
  deriving DecidableEq, Repr

/-- Why a step has no meaning. Both constructors are safe: the model stops. -/
inductive Refusal where
  /-- An instruction that has no meaning in the model, by its mnemonic. No arm of `exec` raises it. -/
  | notModelled (mnemonic : String)
  /-- Raised by `step` alone, when no cartridge has been loaded (20_memory.md R81,
  70_reset_and_hazards.md R554, 93_implementation_defined.md U19). -/
  | noCartridge
  deriving DecidableEq, Repr

/-- The storage behind the bus: (address, byte) pairs, addresses strictly rising, no byte equal to
`Config.unlistedByte`, no address that owns no storage (`Memory.wf`). -/
abbrev Memory := List Host.Cell

/-- The whole architectural state (10_state.md R44). -/
structure State where
  /-- The eight 8-bit slots (10_state.md R20). -/
  a : Byte
  /-- Z N H C in bits 7..4; bits 3..0 are always 0 (10_state.md R22, R26). -/
  f : Byte
  b : Byte
  c : Byte
  d : Byte
  e : Byte
  h : Byte
  l : Byte
  /-- The stack pointer (10_state.md R31). -/
  sp : Word
  /-- The program counter (10_state.md R32). -/
  pc : Word
  /-- The interrupt master enable (10_state.md R33). -/
  ime : Bool
  /-- `ei_pending`, EI's delayed enable (10_state.md R34). -/
  eiPending : Bool
  /-- Set by HALT (10_state.md R35). -/
  halted : Bool
  /-- Set by STOP (10_state.md R36). -/
  stopped : Bool
  /-- `halt_bug`, the latch that keeps the next opcode fetch from advancing PC (10_state.md R37). -/
  haltBug : Bool
  /-- The running total cycle counter (10_state.md R38). -/
  cycles : Nat
  /-- The step-time fault record (10_state.md R39). -/
  fault : Option Fault
  /-- The storage of the memory bus (20_memory.md R51). -/
  mem : Memory
  /-- The external RAM banks the loaded cartridge declares (20_memory.md R59, R79); `none` when no
  cartridge is loaded (70_reset_and_hazards.md R554). -/
  ramBanks : Option Nat
  /-- The launch parameter `HALT_BUG` (00_scope.md R4); no step changes it (10_state.md R44). -/
  haltBugMode : Bool
  deriving DecidableEq, Repr

/-- What running an instruction, or a step, answers. -/
abbrev Result := Host.Outcome State Fault Refusal

/-- The machine right after construction with `RESET_PROFILE = zero` and `HALT_BUG = true`
(10_state.md R42, 70_reset_and_hazards.md R550 item 1), before any cartridge is loaded (log 1), with
nothing listed in memory (log 2). -/
def State.reset : State where
  a := 0x00
  f := 0x00
  b := 0x00
  c := 0x00
  d := 0x00
  e := 0x00
  h := 0x00
  l := 0x00
  sp := 0x0000
  pc := 0x0000
  ime := false
  eiPending := false
  halted := false
  stopped := false
  haltBug := false
  cycles := 0
  fault := none
  mem := []
  ramBanks := none
  haltBugMode := Config.defaultHaltBugMode

end Sys2Proof.Machine
end

