-- ==== Sys2Proof/Machine/Memory.lean ====
section
/-! DEFINITION. The memory bus (20_memory.md): the storage list, the address decoder, the byte
accesses `MemRead` and `MemWrite`, and the two-byte forms of 00_scope.md R9. -/

namespace Sys2Proof.Machine

/-! ### Storage -/

/-- The byte at storage address `k`. -/
def Memory.get : Memory → Nat → Byte
  | [], _ => Config.unlistedByte
  | (k, v) :: rest, j => if k = j then v else Memory.get rest j

/-- The storage with no entry at `k`. -/
def Memory.erase (m : Memory) (k : Nat) : Memory := m.filter fun cell => cell.1 ≠ k

/-- The storage with the entry `(k, v)` in its place, replacing an entry at `k`. -/
def Memory.insert : Memory → Nat → Byte → Memory
  | [], k, v => [(k, v)]
  | (j, w) :: rest, k, v =>
    if j < k then (j, w) :: Memory.insert rest k v
    else if j = k then (k, v) :: rest
    else (k, v) :: (j, w) :: rest

/-- Store `v` at `k`, keeping the canonical form: a byte equal to what an unlisted cell holds is not
listed. -/
def Memory.set (m : Memory) (k : Nat) (v : Byte) : Memory :=
  if v = Config.unlistedByte then Memory.erase m k else Memory.insert m k v

/-- Whether the region map gives `k` storage of its own (20_memory.md R51): everything but the echo,
the gap and what lies past 0xFFFF. -/
def ownsStorage (k : Nat) : Bool :=
  k < 0xE000 || (0xFE00 ≤ k && k < 0xFEA0) || (0xFF00 ≤ k && k ≤ 0xFFFF)

/-- The canonical form of the storage list. -/
def Memory.wf : Memory → Bool
  | [] => true
  | (k, v) :: rest =>
    ownsStorage k && decide (v ≠ Config.unlistedByte) && rest.all (fun cell => k < cell.1) && Memory.wf rest

/-! ### The address decoder -/

/-- The owning regions of 20_memory.md R51, in the order of its table. -/
inductive Region where
  | rom0 | romX | vram | eram | wram | echo | oam | gap | io | hram | ie
  deriving DecidableEq, Repr

/-- "every address in range maps to exactly one owning region" (20_memory.md R51). -/
def region (addr : Word) : Region :=
  let n := addr.toNat
  if n < 0x4000 then .rom0
  else if n < 0x8000 then .romX
  else if n < 0xA000 then .vram
  else if n < 0xC000 then .eram
  else if n < 0xE000 then .wram
  else if n < 0xFE00 then .echo
  else if n < 0xFEA0 then .oam
  else if n < 0xFF00 then .gap
  else if n < 0xFF80 then .io
  else if n < 0xFFFF then .hram
  else .ie

/-- What stands behind a bus address: a cell that can only be read, a cell, or nothing. -/
inductive Slot where
  | rom (k : Nat)
  | ram (k : Nat)
  | absent
  deriving DecidableEq, Repr

/-- Whether the loaded cartridge has external RAM (20_memory.md R59). -/
def hasExternalRam (ramBanks : Option Nat) : Bool :=
  match ramBanks with
  | some n => n != 0
  | none => false

/-- The read and write columns of 20_memory.md R51: ROM (R58), external RAM (R59), the echo's alias
(R54), the gap (R60), and plain storage (R61 to R63). -/
def slot (ramBanks : Option Nat) (addr : Word) : Slot :=
  match region addr with
  | .rom0 | .romX => .rom addr.toNat
  | .eram => if hasExternalRam ramBanks then .ram addr.toNat else .absent
  | .echo => .ram (addr.toNat - 0x2000)
  | .gap => .absent
  | .vram | .wram | .oam | .io | .hram | .ie => .ram addr.toNat

/-! ### The bus -/

/-- `MemRead(addr, 1)` (20_memory.md R52). A read changes no state. -/
def State.read (s : State) (addr : Word) : Byte :=
  match slot s.ramBanks addr with
  | .rom k | .ram k => Memory.get s.mem k
  | .absent => Config.openByte

/-- `MemWrite(addr, 1, v)` (20_memory.md R53): the one cell `read` would read, or nothing at all. -/
def State.write (s : State) (addr : Word) (v : Byte) : State :=
  match slot s.ramBanks addr with
  | .ram k => { s with mem := Memory.set s.mem k v }
  | .rom _ | .absent => s

/-- `MemRead(addr, 2)`: two byte reads, the low byte at `addr` (00_scope.md R9, 20_memory.md R55). -/
def State.read16 (s : State) (addr : Word) : Word := pack (s.read (addr + 1)) (s.read addr)

/-- `MemWrite(addr, 2, v)`: the low byte at `addr`, then the high byte at `addr + 1` (00_scope.md R9,
20_memory.md R71). -/
def State.write16 (s : State) (addr : Word) (v : Word) : State :=
  (s.write addr (loByte v)).write (addr + 1) (hiByte v)

end Sys2Proof.Machine
end

