-- ==== Sys2Proof/Machine/Ops.lean ====
section
/-! DEFINITION. The named operations over registers, flags, the stack and the interrupt state: every
register read and write goes through here. Taking an interrupt (60_exceptions.md R503), raising
InvalidOpcode (46_system.md R456) and the return from interrupt (45_control.md R409) stand here once. -/

namespace Sys2Proof.Machine

/-! ### Registers -/

/-- `x[r]` (10_state.md R21). -/
def State.reg (s : State) (r : Reg8) : Byte :=
  match r with
  | .a => s.a
  | .b => s.b
  | .c => s.c
  | .d => s.d
  | .e => s.e
  | .h => s.h
  | .l => s.l

/-- `x[r] <- v` for a register other than F (10_state.md R21). -/
def State.setReg (s : State) (r : Reg8) (v : Byte) : State :=
  match r with
  | .a => { s with a := v }
  | .b => { s with b := v }
  | .c => { s with c := v }
  | .d => { s with d := v }
  | .e => { s with e := v }
  | .h => { s with h := v }
  | .l => { s with l := v }

/-- `x[F] <- v`: "must mask to the four high bits" (10_state.md R22). -/
def State.setF (s : State) (v : Byte) : State := { s with f := v &&& 0xF0 }

/-- The pair BC (10_state.md R23). -/
def State.bc (s : State) : Word := pack s.b s.c

/-- The pair DE (10_state.md R23). -/
def State.de (s : State) : Word := pack s.d s.e

/-- The pair HL (10_state.md R23). -/
def State.hl (s : State) : Word := pack s.h s.l

/-- The pair AF (10_state.md R23). -/
def State.af (s : State) : Word := pack s.a s.f

/-- `BC <- v` (10_state.md R24). -/
def State.setBc (s : State) (v : Word) : State := { s with b := hiByte v, c := loByte v }

/-- `DE <- v` (10_state.md R24). -/
def State.setDe (s : State) (v : Word) : State := { s with d := hiByte v, e := loByte v }

/-- `HL <- v` (10_state.md R24). -/
def State.setHl (s : State) (v : Word) : State := { s with h := hiByte v, l := loByte v }

/-- `AF <- v` (10_state.md R24): the write of F obeys R22. -/
def State.setAf (s : State) (v : Word) : State := (s.setReg .a (hiByte v)).setF (loByte v)

/-- `SP <- v` (10_state.md R31). -/
def State.setSp (s : State) (v : Word) : State := { s with sp := v }

/-- `PC <- v` (10_state.md R32). -/
def State.setPc (s : State) (v : Word) : State := { s with pc := v }

/-! ### Flags -/

/-- `F.Z = F[7]` (10_state.md R26). -/
def State.flagZ (s : State) : Bool := s.f.getLsbD 7

/-- `F.N = F[6]` (10_state.md R26). -/
def State.flagN (s : State) : Bool := s.f.getLsbD 6

/-- `F.H = F[5]` (10_state.md R26). -/
def State.flagH (s : State) : Bool := s.f.getLsbD 5

/-- `F.C = F[4]` (10_state.md R26). -/
def State.flagC (s : State) : Bool := s.f.getLsbD 4

/-- `F <- flags(z, n, h, c)` (00_scope.md R8). A flag an instruction leaves unchanged is given its old
value (10_state.md R27). -/
def State.setFlags (s : State) (z n h c : Bool) : State := s.setF (packFlags z n h c)

/-! ### Cycles and completion -/

/-- Add a cost to the running cycle counter (10_state.md R38). -/
def State.charge (s : State) (n : Nat) : State := { s with cycles := s.cycles + n }

/-- An instruction that completes at a cost of `n` cycles (30_encoding.md R112). -/
def done (n : Nat) (s : State) : Result := .next (s.charge n)

/-! ### The stack (41_loads_16bit.md R203, R204; 45_control.md conventions) -/

/-- Decrement SP, then write the byte (10_state.md R31). -/
def State.pushByte (s : State) (v : Byte) : State := (s.setSp (s.sp - 1)).write (s.sp - 1) v

/-- `push16(v)`: the high byte first, at the higher address (20_memory.md R71). -/
def State.push16 (s : State) (v : Word) : State := (s.pushByte (hiByte v)).pushByte (loByte v)

/-- The word `pop16()` returns: the low byte at SP, the high byte at SP + 1 (20_memory.md R71). -/
def State.stackTop (s : State) : Word := s.read16 s.sp

/-- What `pop16()` leaves: SP incremented after each of its two reads (10_state.md R31). -/
def State.dropStack (s : State) : State := s.setSp (s.sp + 1 + 1)

/-! ### Interrupts -/

/-- The bus address of IE (10_state.md R40). -/
def addrIE : Word := 0xFFFF

/-- The bus address of IF (10_state.md R41). -/
def addrIF : Word := 0xFF0F

/-- `pending = IE & IF & 0x1F` (60_exceptions.md R502). -/
def State.pending (s : State) : Byte := s.read addrIE &&& s.read addrIF &&& 0x1F

/-- Whether an interrupt is both enabled and requested (60_exceptions.md R502). -/
def State.hasPending (s : State) : Bool := s.pending != 0

/-- The lowest set bit among bits 0 to 4 of a pending set (60_exceptions.md R504). -/
def lowestSource (p : Byte) : Nat :=
  if p.getLsbD 0 then 0
  else if p.getLsbD 1 then 1
  else if p.getLsbD 2 then 2
  else if p.getLsbD 3 then 3
  else 4

/-- The vector `0x0040 + 8 * n` of source n (60_exceptions.md R505). -/
def vector (n : Nat) : Word := BitVec.ofNat 16 (0x0040 + 8 * n)

/-- The return address a dispatch pushes: PC, or the HALT itself when the halt-bug latch is set
(60_exceptions.md R503, 46_system.md R451 case (4)). -/
def State.returnAddress (s : State) : Word := if s.haltBug then s.pc - 1 else s.pc

/-- A dispatch up to the push of the high byte: IME and the latches cleared (60_exceptions.md R503). -/
def State.dispatchHigh (s : State) : State :=
  { s with ime := false, eiPending := false, haltBug := false }.pushByte (hiByte s.returnAddress)

/-- TAKING AN INTERRUPT (60_exceptions.md R503). The pending set is sampled after the high byte is
pushed; when that push left none, the dispatch goes to 0x0000 and clears no IF bit. -/
def State.dispatch (s : State) : State :=
  let high := s.dispatchHigh
  let p := high.pending
  let low := high.pushByte (loByte s.returnAddress)
  if p = 0 then low.setPc 0x0000
  else
    let n := lowestSource p
    (low.write addrIF (low.read addrIF &&& ~~~(1#8 <<< n))).setPc (vector n)

/-- RETURN FROM INTERRUPT (45_control.md R409, 60_exceptions.md R508): pop PC and set IME at once;
nothing else is restored. -/
def State.returnFromInterrupt (s : State) : State :=
  { s.dropStack.setPc s.stackTop with ime := true }

/-- RAISING InvalidOpcode (46_system.md R456, 60_exceptions.md R500): the record holds PC, which is
still the address the byte was fetched from, and the byte; nothing else changes. -/
def State.raiseInvalidOpcode (s : State) (byte : Byte) : State :=
  { s with fault := some (.invalidOpcode s.pc byte) }

end Sys2Proof.Machine
end

