-- ==== Sys2Proof/Machine/Operands.lean ====
section
/-! DEFINITION. The operand forms: the r16 and r16stk fields (30_encoding.md R105, R106), the condition
field (R107), the high page (40_loads_8bit.md R161 to R164) and the byte at HL (R104). -/

namespace Sys2Proof.Machine

/-- The value of an `r16` operand (30_encoding.md R105). -/
def State.pair (s : State) (p : Pair) : Word :=
  match p with
  | .bc => s.bc
  | .de => s.de
  | .hl => s.hl
  | .sp => s.sp

/-- Writing an `r16` operand (10_state.md R24; 41_loads_16bit.md R200). -/
def State.setPair (s : State) (p : Pair) (v : Word) : State :=
  match p with
  | .bc => s.setBc v
  | .de => s.setDe v
  | .hl => s.setHl v
  | .sp => s.setSp v

/-- The value of an `r16stk` operand (30_encoding.md R106). -/
def State.stkPair (s : State) (p : StkPair) : Word :=
  match p with
  | .bc => s.bc
  | .de => s.de
  | .hl => s.hl
  | .af => s.af

/-- Writing an `r16stk` operand (41_loads_16bit.md R204). -/
def State.setStkPair (s : State) (p : StkPair) (v : Word) : State :=
  match p with
  | .bc => s.setBc v
  | .de => s.setDe v
  | .hl => s.setHl v
  | .af => s.setAf v

/-- `cond(cc)` (30_encoding.md R107). -/
def State.cond (s : State) (cc : Cond) : Bool :=
  match cc with
  | .nz => !s.flagZ
  | .z => s.flagZ
  | .nc => !s.flagC
  | .c => s.flagC

/-- The byte at HL, the `[HL]` operand (30_encoding.md R104). -/
def State.readHl (s : State) : Byte := s.read s.hl

/-- Writing the `[HL]` operand (30_encoding.md R104). -/
def State.writeHl (s : State) (v : Byte) : State := s.write s.hl v

/-- `0xFF00 + n`, the high page (40_loads_8bit.md R161). -/
def highPage (n : Byte) : Word := 0xFF00 + zext16 n

end Sys2Proof.Machine
end

