-- ==== Sys2Proof/Machine/Alu16.lean ====
section
/-! DEFINITION. The 16-bit arithmetic (43_alu_16bit.md). -/

namespace Sys2Proof.Machine

/-! ### Shared operations -/

/-- `ADD HL,rr` (R301): Z is unchanged. -/
def addHlPair (p : Pair) (s : State) : Result :=
  let (res, h, c) := addHl s.hl (s.pair p)
  done 8 ((s.setHl res).setFlags s.flagZ false h c)

/-- `INC rr` (R302): no flag is affected. -/
def incPair (p : Pair) (s : State) : Result := done 8 (s.setPair p (s.pair p + 1))

/-- `DEC rr` (R303): no flag is affected. -/
def decPair (p : Pair) (s : State) : Result := done 8 (s.setPair p (s.pair p - 1))

/-- `ADD SP,e8` (R304): Z = 0, N = 0, H and C by R300. -/
def addSpOffset (e : Byte) (s : State) : Result :=
  let (res, h, c) := addSpE8 s.sp e
  done 16 ((s.setSp res).setFlags false false h c)

/-! ### One meaning per row of the table -/

/-- `INC BC` (byte 03; R302). -/
def execINC_BC (s : State) : Result := incPair .bc s

/-- `ADD HL,BC` (byte 09; R301). -/
def execADD_HL_BC (s : State) : Result := addHlPair .bc s

/-- `DEC BC` (byte 0B; R303). -/
def execDEC_BC (s : State) : Result := decPair .bc s

/-- `INC DE` (byte 13; R302). -/
def execINC_DE (s : State) : Result := incPair .de s

/-- `ADD HL,DE` (byte 19; R301). -/
def execADD_HL_DE (s : State) : Result := addHlPair .de s

/-- `DEC DE` (byte 1B; R303). -/
def execDEC_DE (s : State) : Result := decPair .de s

/-- `INC HL` (byte 23; R302). -/
def execINC_HL (s : State) : Result := incPair .hl s

/-- `ADD HL,HL` (byte 29; R301). -/
def execADD_HL_HL (s : State) : Result := addHlPair .hl s

/-- `DEC HL` (byte 2B; R303). -/
def execDEC_HL (s : State) : Result := decPair .hl s

/-- `INC SP` (byte 33; R302). -/
def execINC_SP (s : State) : Result := incPair .sp s

/-- `ADD HL,SP` (byte 39; R301). -/
def execADD_HL_SP (s : State) : Result := addHlPair .sp s

/-- `DEC SP` (byte 3B; R303). -/
def execDEC_SP (s : State) : Result := decPair .sp s

/-- `ADD SP,e8` (bytes E8 e; R304). -/
def execADD_SP_e8 (e : Byte) (s : State) : Result := addSpOffset e s

end Sys2Proof.Machine
end

