-- ==== Sys2Proof/Machine/Alu8.lean ====
section
/-! DEFINITION. The 8-bit arithmetic and logic (42_alu_8bit.md). -/

namespace Sys2Proof.Machine

/-! ### Shared operations -/

/-- `(res, z, n, h, c) <- op(A, b); A <- res; F <- flags(z, n, h, c)`, where CP writes no A (R260 to
R283). -/
def State.aluApply (s : State) (op : AluOp) (b : Byte) : State :=
  let out := aluCompute op s.a b s.flagC
  let written := match op with
    | .cp => s
    | .add | .adc | .sub | .sbc | .and | .xor | .or => s.setReg .a out.r
  written.setFlags out.z out.n out.h out.c

/-- The register form of a two-operand operation. -/
def aluReg (op : AluOp) (src : Reg8) (s : State) : Result := done 4 (s.aluApply op (s.reg src))

/-- The `[HL]` form of a two-operand operation. -/
def aluMem (op : AluOp) (s : State) : Result := done 8 (s.aluApply op s.readHl)

/-- The immediate form of a two-operand operation. -/
def aluImm (op : AluOp) (n : Byte) (s : State) : Result := done 8 (s.aluApply op n)

/-- `INC r` (R284): C is unchanged. -/
def incReg (r : Reg8) (s : State) : Result :=
  let out := inc8 (s.reg r) s.flagC
  done 4 ((s.setReg r out.r).setFlags out.z out.n out.h out.c)

/-- `INC [HL]` (R285): the flags are those of the byte read, whether or not the write lands. -/
def incMem (s : State) : Result :=
  let out := inc8 s.readHl s.flagC
  done 12 ((s.writeHl out.r).setFlags out.z out.n out.h out.c)

/-- `DEC r` (R286): C is unchanged. -/
def decReg (r : Reg8) (s : State) : Result :=
  let out := dec8 (s.reg r) s.flagC
  done 4 ((s.setReg r out.r).setFlags out.z out.n out.h out.c)

/-- `DEC [HL]` (R287). -/
def decMem (s : State) : Result :=
  let out := dec8 s.readHl s.flagC
  done 12 ((s.writeHl out.r).setFlags out.z out.n out.h out.c)

/-- The decimal adjustment of A (R288): N is unchanged. -/
def decimalAdjust (s : State) : Result :=
  let (a, c) := daaAdjust s.a s.flagN s.flagH s.flagC
  done 4 ((s.setReg .a a).setFlags (a == 0) s.flagN false c)

/-- The complement of A (R289): Z and C are unchanged. -/
def complementA (s : State) : Result := done 4 ((s.setReg .a (~~~s.a)).setFlags s.flagZ true true s.flagC)

/-- Setting the carry flag (R290): Z is unchanged. -/
def setCarry (s : State) : Result := done 4 (s.setFlags s.flagZ false false true)

/-- Complementing the carry flag (R291): Z is unchanged. -/
def complementCarry (s : State) : Result := done 4 (s.setFlags s.flagZ false false (!s.flagC))

/-! ### One meaning per row of the table -/

/-- `INC B` (byte 04; R284). -/
def execINC_B (s : State) : Result := incReg .b s

/-- `DEC B` (byte 05; R286). -/
def execDEC_B (s : State) : Result := decReg .b s

/-- `INC C` (byte 0C; R284). -/
def execINC_C (s : State) : Result := incReg .c s

/-- `DEC C` (byte 0D; R286). -/
def execDEC_C (s : State) : Result := decReg .c s

/-- `INC D` (byte 14; R284). -/
def execINC_D (s : State) : Result := incReg .d s

/-- `DEC D` (byte 15; R286). -/
def execDEC_D (s : State) : Result := decReg .d s

/-- `INC E` (byte 1C; R284). -/
def execINC_E (s : State) : Result := incReg .e s

/-- `DEC E` (byte 1D; R286). -/
def execDEC_E (s : State) : Result := decReg .e s

/-- `INC H` (byte 24; R284). -/
def execINC_H (s : State) : Result := incReg .h s

/-- `DEC H` (byte 25; R286). -/
def execDEC_H (s : State) : Result := decReg .h s

/-- `DAA` (byte 27; R288). -/
def execDAA (s : State) : Result := decimalAdjust s

/-- `INC L` (byte 2C; R284). -/
def execINC_L (s : State) : Result := incReg .l s

/-- `DEC L` (byte 2D; R286). -/
def execDEC_L (s : State) : Result := decReg .l s

/-- `CPL` (byte 2F; R289). -/
def execCPL (s : State) : Result := complementA s

/-- `INC [HL]` (byte 34; R285). -/
def execINC_mHL (s : State) : Result := incMem s

/-- `DEC [HL]` (byte 35; R287). -/
def execDEC_mHL (s : State) : Result := decMem s

/-- `SCF` (byte 37; R290). -/
def execSCF (s : State) : Result := setCarry s

/-- `INC A` (byte 3C; R284). -/
def execINC_A (s : State) : Result := incReg .a s

/-- `DEC A` (byte 3D; R286). -/
def execDEC_A (s : State) : Result := decReg .a s

/-- `CCF` (byte 3F; R291). -/
def execCCF (s : State) : Result := complementCarry s

/-- `ADD A,B` (byte 80; R260). -/
def execADD_A_B (s : State) : Result := aluReg .add .b s

/-- `ADD A,C` (byte 81; R260). -/
def execADD_A_C (s : State) : Result := aluReg .add .c s

/-- `ADD A,D` (byte 82; R260). -/
def execADD_A_D (s : State) : Result := aluReg .add .d s

/-- `ADD A,E` (byte 83; R260). -/
def execADD_A_E (s : State) : Result := aluReg .add .e s

/-- `ADD A,H` (byte 84; R260). -/
def execADD_A_H (s : State) : Result := aluReg .add .h s

/-- `ADD A,L` (byte 85; R260). -/
def execADD_A_L (s : State) : Result := aluReg .add .l s

/-- `ADD A,[HL]` (byte 86; R261). -/
def execADD_A_mHL (s : State) : Result := aluMem .add s

/-- `ADD A,A` (byte 87; R260). -/
def execADD_A_A (s : State) : Result := aluReg .add .a s

/-- `ADC A,B` (byte 88; R263). -/
def execADC_A_B (s : State) : Result := aluReg .adc .b s

/-- `ADC A,C` (byte 89; R263). -/
def execADC_A_C (s : State) : Result := aluReg .adc .c s

/-- `ADC A,D` (byte 8A; R263). -/
def execADC_A_D (s : State) : Result := aluReg .adc .d s

/-- `ADC A,E` (byte 8B; R263). -/
def execADC_A_E (s : State) : Result := aluReg .adc .e s

/-- `ADC A,H` (byte 8C; R263). -/
def execADC_A_H (s : State) : Result := aluReg .adc .h s

/-- `ADC A,L` (byte 8D; R263). -/
def execADC_A_L (s : State) : Result := aluReg .adc .l s

/-- `ADC A,[HL]` (byte 8E; R264). -/
def execADC_A_mHL (s : State) : Result := aluMem .adc s

/-- `ADC A,A` (byte 8F; R263). -/
def execADC_A_A (s : State) : Result := aluReg .adc .a s

/-- `SUB B` (byte 90; R266). -/
def execSUB_B (s : State) : Result := aluReg .sub .b s

/-- `SUB C` (byte 91; R266). -/
def execSUB_C (s : State) : Result := aluReg .sub .c s

/-- `SUB D` (byte 92; R266). -/
def execSUB_D (s : State) : Result := aluReg .sub .d s

/-- `SUB E` (byte 93; R266). -/
def execSUB_E (s : State) : Result := aluReg .sub .e s

/-- `SUB H` (byte 94; R266). -/
def execSUB_H (s : State) : Result := aluReg .sub .h s

/-- `SUB L` (byte 95; R266). -/
def execSUB_L (s : State) : Result := aluReg .sub .l s

/-- `SUB [HL]` (byte 96; R267). -/
def execSUB_mHL (s : State) : Result := aluMem .sub s

/-- `SUB A` (byte 97; R266). -/
def execSUB_A (s : State) : Result := aluReg .sub .a s

/-- `SBC A,B` (byte 98; R269). -/
def execSBC_A_B (s : State) : Result := aluReg .sbc .b s

/-- `SBC A,C` (byte 99; R269). -/
def execSBC_A_C (s : State) : Result := aluReg .sbc .c s

/-- `SBC A,D` (byte 9A; R269). -/
def execSBC_A_D (s : State) : Result := aluReg .sbc .d s

/-- `SBC A,E` (byte 9B; R269). -/
def execSBC_A_E (s : State) : Result := aluReg .sbc .e s

/-- `SBC A,H` (byte 9C; R269). -/
def execSBC_A_H (s : State) : Result := aluReg .sbc .h s

/-- `SBC A,L` (byte 9D; R269). -/
def execSBC_A_L (s : State) : Result := aluReg .sbc .l s

/-- `SBC A,[HL]` (byte 9E; R270). -/
def execSBC_A_mHL (s : State) : Result := aluMem .sbc s

/-- `SBC A,A` (byte 9F; R269). -/
def execSBC_A_A (s : State) : Result := aluReg .sbc .a s

/-- `AND B` (byte A0; R272). -/
def execAND_B (s : State) : Result := aluReg .and .b s

/-- `AND C` (byte A1; R272). -/
def execAND_C (s : State) : Result := aluReg .and .c s

/-- `AND D` (byte A2; R272). -/
def execAND_D (s : State) : Result := aluReg .and .d s

/-- `AND E` (byte A3; R272). -/
def execAND_E (s : State) : Result := aluReg .and .e s

/-- `AND H` (byte A4; R272). -/
def execAND_H (s : State) : Result := aluReg .and .h s

/-- `AND L` (byte A5; R272). -/
def execAND_L (s : State) : Result := aluReg .and .l s

/-- `AND [HL]` (byte A6; R273). -/
def execAND_mHL (s : State) : Result := aluMem .and s

/-- `AND A` (byte A7; R272). -/
def execAND_A (s : State) : Result := aluReg .and .a s

/-- `XOR B` (byte A8; R275). -/
def execXOR_B (s : State) : Result := aluReg .xor .b s

/-- `XOR C` (byte A9; R275). -/
def execXOR_C (s : State) : Result := aluReg .xor .c s

/-- `XOR D` (byte AA; R275). -/
def execXOR_D (s : State) : Result := aluReg .xor .d s

/-- `XOR E` (byte AB; R275). -/
def execXOR_E (s : State) : Result := aluReg .xor .e s

/-- `XOR H` (byte AC; R275). -/
def execXOR_H (s : State) : Result := aluReg .xor .h s

/-- `XOR L` (byte AD; R275). -/
def execXOR_L (s : State) : Result := aluReg .xor .l s

/-- `XOR [HL]` (byte AE; R276). -/
def execXOR_mHL (s : State) : Result := aluMem .xor s

/-- `XOR A` (byte AF; R275). -/
def execXOR_A (s : State) : Result := aluReg .xor .a s

/-- `OR B` (byte B0; R278). -/
def execOR_B (s : State) : Result := aluReg .or .b s

/-- `OR C` (byte B1; R278). -/
def execOR_C (s : State) : Result := aluReg .or .c s

/-- `OR D` (byte B2; R278). -/
def execOR_D (s : State) : Result := aluReg .or .d s

/-- `OR E` (byte B3; R278). -/
def execOR_E (s : State) : Result := aluReg .or .e s

/-- `OR H` (byte B4; R278). -/
def execOR_H (s : State) : Result := aluReg .or .h s

/-- `OR L` (byte B5; R278). -/
def execOR_L (s : State) : Result := aluReg .or .l s

/-- `OR [HL]` (byte B6; R279). -/
def execOR_mHL (s : State) : Result := aluMem .or s

/-- `OR A` (byte B7; R278). -/
def execOR_A (s : State) : Result := aluReg .or .a s

/-- `CP B` (byte B8; R281). -/
def execCP_B (s : State) : Result := aluReg .cp .b s

/-- `CP C` (byte B9; R281). -/
def execCP_C (s : State) : Result := aluReg .cp .c s

/-- `CP D` (byte BA; R281). -/
def execCP_D (s : State) : Result := aluReg .cp .d s

/-- `CP E` (byte BB; R281). -/
def execCP_E (s : State) : Result := aluReg .cp .e s

/-- `CP H` (byte BC; R281). -/
def execCP_H (s : State) : Result := aluReg .cp .h s

/-- `CP L` (byte BD; R281). -/
def execCP_L (s : State) : Result := aluReg .cp .l s

/-- `CP [HL]` (byte BE; R282). -/
def execCP_mHL (s : State) : Result := aluMem .cp s

/-- `CP A` (byte BF; R281). -/
def execCP_A (s : State) : Result := aluReg .cp .a s

/-- `ADD A,n` (bytes C6 n; R262). -/
def execADD_A_n (n : Byte) (s : State) : Result := aluImm .add n s

/-- `ADC A,n` (bytes CE n; R265). -/
def execADC_A_n (n : Byte) (s : State) : Result := aluImm .adc n s

/-- `SUB n` (bytes D6 n; R268). -/
def execSUB_n (n : Byte) (s : State) : Result := aluImm .sub n s

/-- `SBC A,n` (bytes DE n; R271). -/
def execSBC_A_n (n : Byte) (s : State) : Result := aluImm .sbc n s

/-- `AND n` (bytes E6 n; R274). -/
def execAND_n (n : Byte) (s : State) : Result := aluImm .and n s

/-- `XOR n` (bytes EE n; R277). -/
def execXOR_n (n : Byte) (s : State) : Result := aluImm .xor n s

/-- `OR n` (bytes F6 n; R280). -/
def execOR_n (n : Byte) (s : State) : Result := aluImm .or n s

/-- `CP n` (bytes FE n; R283). -/
def execCP_n (n : Byte) (s : State) : Result := aluImm .cp n s

end Sys2Proof.Machine
end

