-- ==== Sys2Proof/Machine/Bits.lean ====
section
/-! DEFINITION. The single-bit operations (44_rotate_shift_bit.md R371 to R376). -/

namespace Sys2Proof.Machine

/-! ### Shared operations -/

/-- The flags of BIT (R371): Z = not the bit, N = 0, H = 1, C unchanged. -/
def State.testBit (s : State) (b : Fin 8) (v : Byte) : State :=
  s.setFlags (!v.getLsbD b) false true s.flagC

/-- `v & ~(1 << b) & 0xFF` (R373). -/
def clearBit (b : Fin 8) (v : Byte) : Byte := v &&& ~~~(1#8 <<< b.val)

/-- `v | (1 << b)` (R375). -/
def setBit (b : Fin 8) (v : Byte) : Byte := v ||| (1#8 <<< b.val)

/-- `BIT b,r` (R371): the register is not written. -/
def testBitReg (b : Fin 8) (r : Reg8) (s : State) : Result := done 8 (s.testBit b (s.reg r))

/-- `BIT b,[HL]` (R372): memory is not written. -/
def testBitMem (b : Fin 8) (s : State) : Result := done 12 (s.testBit b s.readHl)

/-- `RES b,r` (R373). -/
def clearBitReg (b : Fin 8) (r : Reg8) (s : State) : Result := done 8 (s.setReg r (clearBit b (s.reg r)))

/-- `RES b,[HL]` (R374). -/
def clearBitMem (b : Fin 8) (s : State) : Result := done 16 (s.writeHl (clearBit b s.readHl))

/-- `SET b,r` (R375). -/
def setBitReg (b : Fin 8) (r : Reg8) (s : State) : Result := done 8 (s.setReg r (setBit b (s.reg r)))

/-- `SET b,[HL]` (R376). -/
def setBitMem (b : Fin 8) (s : State) : Result := done 16 (s.writeHl (setBit b s.readHl))

/-! ### One meaning per row of the table -/

/-- `BIT 0,B` (bytes CB 40; R371). -/
def execBIT_0_B (s : State) : Result := testBitReg 0 .b s

/-- `BIT 0,C` (bytes CB 41; R371). -/
def execBIT_0_C (s : State) : Result := testBitReg 0 .c s

/-- `BIT 0,D` (bytes CB 42; R371). -/
def execBIT_0_D (s : State) : Result := testBitReg 0 .d s

/-- `BIT 0,E` (bytes CB 43; R371). -/
def execBIT_0_E (s : State) : Result := testBitReg 0 .e s

/-- `BIT 0,H` (bytes CB 44; R371). -/
def execBIT_0_H (s : State) : Result := testBitReg 0 .h s

/-- `BIT 0,L` (bytes CB 45; R371). -/
def execBIT_0_L (s : State) : Result := testBitReg 0 .l s

/-- `BIT 0,[HL]` (bytes CB 46; R372). -/
def execBIT_0_mHL (s : State) : Result := testBitMem 0 s

/-- `BIT 0,A` (bytes CB 47; R371). -/
def execBIT_0_A (s : State) : Result := testBitReg 0 .a s

/-- `BIT 1,B` (bytes CB 48; R371). -/
def execBIT_1_B (s : State) : Result := testBitReg 1 .b s

/-- `BIT 1,C` (bytes CB 49; R371). -/
def execBIT_1_C (s : State) : Result := testBitReg 1 .c s

/-- `BIT 1,D` (bytes CB 4A; R371). -/
def execBIT_1_D (s : State) : Result := testBitReg 1 .d s

/-- `BIT 1,E` (bytes CB 4B; R371). -/
def execBIT_1_E (s : State) : Result := testBitReg 1 .e s

/-- `BIT 1,H` (bytes CB 4C; R371). -/
def execBIT_1_H (s : State) : Result := testBitReg 1 .h s

/-- `BIT 1,L` (bytes CB 4D; R371). -/
def execBIT_1_L (s : State) : Result := testBitReg 1 .l s

/-- `BIT 1,[HL]` (bytes CB 4E; R372). -/
def execBIT_1_mHL (s : State) : Result := testBitMem 1 s

/-- `BIT 1,A` (bytes CB 4F; R371). -/
def execBIT_1_A (s : State) : Result := testBitReg 1 .a s

/-- `BIT 2,B` (bytes CB 50; R371). -/
def execBIT_2_B (s : State) : Result := testBitReg 2 .b s

/-- `BIT 2,C` (bytes CB 51; R371). -/
def execBIT_2_C (s : State) : Result := testBitReg 2 .c s

/-- `BIT 2,D` (bytes CB 52; R371). -/
def execBIT_2_D (s : State) : Result := testBitReg 2 .d s

/-- `BIT 2,E` (bytes CB 53; R371). -/
def execBIT_2_E (s : State) : Result := testBitReg 2 .e s

/-- `BIT 2,H` (bytes CB 54; R371). -/
def execBIT_2_H (s : State) : Result := testBitReg 2 .h s

/-- `BIT 2,L` (bytes CB 55; R371). -/
def execBIT_2_L (s : State) : Result := testBitReg 2 .l s

/-- `BIT 2,[HL]` (bytes CB 56; R372). -/
def execBIT_2_mHL (s : State) : Result := testBitMem 2 s

/-- `BIT 2,A` (bytes CB 57; R371). -/
def execBIT_2_A (s : State) : Result := testBitReg 2 .a s

/-- `BIT 3,B` (bytes CB 58; R371). -/
def execBIT_3_B (s : State) : Result := testBitReg 3 .b s

/-- `BIT 3,C` (bytes CB 59; R371). -/
def execBIT_3_C (s : State) : Result := testBitReg 3 .c s

/-- `BIT 3,D` (bytes CB 5A; R371). -/
def execBIT_3_D (s : State) : Result := testBitReg 3 .d s

/-- `BIT 3,E` (bytes CB 5B; R371). -/
def execBIT_3_E (s : State) : Result := testBitReg 3 .e s

/-- `BIT 3,H` (bytes CB 5C; R371). -/
def execBIT_3_H (s : State) : Result := testBitReg 3 .h s

/-- `BIT 3,L` (bytes CB 5D; R371). -/
def execBIT_3_L (s : State) : Result := testBitReg 3 .l s

/-- `BIT 3,[HL]` (bytes CB 5E; R372). -/
def execBIT_3_mHL (s : State) : Result := testBitMem 3 s

/-- `BIT 3,A` (bytes CB 5F; R371). -/
def execBIT_3_A (s : State) : Result := testBitReg 3 .a s

/-- `BIT 4,B` (bytes CB 60; R371). -/
def execBIT_4_B (s : State) : Result := testBitReg 4 .b s

/-- `BIT 4,C` (bytes CB 61; R371). -/
def execBIT_4_C (s : State) : Result := testBitReg 4 .c s

/-- `BIT 4,D` (bytes CB 62; R371). -/
def execBIT_4_D (s : State) : Result := testBitReg 4 .d s

/-- `BIT 4,E` (bytes CB 63; R371). -/
def execBIT_4_E (s : State) : Result := testBitReg 4 .e s

/-- `BIT 4,H` (bytes CB 64; R371). -/
def execBIT_4_H (s : State) : Result := testBitReg 4 .h s

/-- `BIT 4,L` (bytes CB 65; R371). -/
def execBIT_4_L (s : State) : Result := testBitReg 4 .l s

/-- `BIT 4,[HL]` (bytes CB 66; R372). -/
def execBIT_4_mHL (s : State) : Result := testBitMem 4 s

/-- `BIT 4,A` (bytes CB 67; R371). -/
def execBIT_4_A (s : State) : Result := testBitReg 4 .a s

/-- `BIT 5,B` (bytes CB 68; R371). -/
def execBIT_5_B (s : State) : Result := testBitReg 5 .b s

/-- `BIT 5,C` (bytes CB 69; R371). -/
def execBIT_5_C (s : State) : Result := testBitReg 5 .c s

/-- `BIT 5,D` (bytes CB 6A; R371). -/
def execBIT_5_D (s : State) : Result := testBitReg 5 .d s

/-- `BIT 5,E` (bytes CB 6B; R371). -/
def execBIT_5_E (s : State) : Result := testBitReg 5 .e s

/-- `BIT 5,H` (bytes CB 6C; R371). -/
def execBIT_5_H (s : State) : Result := testBitReg 5 .h s

/-- `BIT 5,L` (bytes CB 6D; R371). -/
def execBIT_5_L (s : State) : Result := testBitReg 5 .l s

/-- `BIT 5,[HL]` (bytes CB 6E; R372). -/
def execBIT_5_mHL (s : State) : Result := testBitMem 5 s

/-- `BIT 5,A` (bytes CB 6F; R371). -/
def execBIT_5_A (s : State) : Result := testBitReg 5 .a s

/-- `BIT 6,B` (bytes CB 70; R371). -/
def execBIT_6_B (s : State) : Result := testBitReg 6 .b s

/-- `BIT 6,C` (bytes CB 71; R371). -/
def execBIT_6_C (s : State) : Result := testBitReg 6 .c s

/-- `BIT 6,D` (bytes CB 72; R371). -/
def execBIT_6_D (s : State) : Result := testBitReg 6 .d s

/-- `BIT 6,E` (bytes CB 73; R371). -/
def execBIT_6_E (s : State) : Result := testBitReg 6 .e s

/-- `BIT 6,H` (bytes CB 74; R371). -/
def execBIT_6_H (s : State) : Result := testBitReg 6 .h s

/-- `BIT 6,L` (bytes CB 75; R371). -/
def execBIT_6_L (s : State) : Result := testBitReg 6 .l s

/-- `BIT 6,[HL]` (bytes CB 76; R372). -/
def execBIT_6_mHL (s : State) : Result := testBitMem 6 s

/-- `BIT 6,A` (bytes CB 77; R371). -/
def execBIT_6_A (s : State) : Result := testBitReg 6 .a s

/-- `BIT 7,B` (bytes CB 78; R371). -/
def execBIT_7_B (s : State) : Result := testBitReg 7 .b s

/-- `BIT 7,C` (bytes CB 79; R371). -/
def execBIT_7_C (s : State) : Result := testBitReg 7 .c s

/-- `BIT 7,D` (bytes CB 7A; R371). -/
def execBIT_7_D (s : State) : Result := testBitReg 7 .d s

/-- `BIT 7,E` (bytes CB 7B; R371). -/
def execBIT_7_E (s : State) : Result := testBitReg 7 .e s

/-- `BIT 7,H` (bytes CB 7C; R371). -/
def execBIT_7_H (s : State) : Result := testBitReg 7 .h s

/-- `BIT 7,L` (bytes CB 7D; R371). -/
def execBIT_7_L (s : State) : Result := testBitReg 7 .l s

/-- `BIT 7,[HL]` (bytes CB 7E; R372). -/
def execBIT_7_mHL (s : State) : Result := testBitMem 7 s

/-- `BIT 7,A` (bytes CB 7F; R371). -/
def execBIT_7_A (s : State) : Result := testBitReg 7 .a s

/-- `RES 0,B` (bytes CB 80; R373). -/
def execRES_0_B (s : State) : Result := clearBitReg 0 .b s

/-- `RES 0,C` (bytes CB 81; R373). -/
def execRES_0_C (s : State) : Result := clearBitReg 0 .c s

/-- `RES 0,D` (bytes CB 82; R373). -/
def execRES_0_D (s : State) : Result := clearBitReg 0 .d s

/-- `RES 0,E` (bytes CB 83; R373). -/
def execRES_0_E (s : State) : Result := clearBitReg 0 .e s

/-- `RES 0,H` (bytes CB 84; R373). -/
def execRES_0_H (s : State) : Result := clearBitReg 0 .h s

/-- `RES 0,L` (bytes CB 85; R373). -/
def execRES_0_L (s : State) : Result := clearBitReg 0 .l s

/-- `RES 0,[HL]` (bytes CB 86; R374). -/
def execRES_0_mHL (s : State) : Result := clearBitMem 0 s

/-- `RES 0,A` (bytes CB 87; R373). -/
def execRES_0_A (s : State) : Result := clearBitReg 0 .a s

/-- `RES 1,B` (bytes CB 88; R373). -/
def execRES_1_B (s : State) : Result := clearBitReg 1 .b s

/-- `RES 1,C` (bytes CB 89; R373). -/
def execRES_1_C (s : State) : Result := clearBitReg 1 .c s

/-- `RES 1,D` (bytes CB 8A; R373). -/
def execRES_1_D (s : State) : Result := clearBitReg 1 .d s

/-- `RES 1,E` (bytes CB 8B; R373). -/
def execRES_1_E (s : State) : Result := clearBitReg 1 .e s

/-- `RES 1,H` (bytes CB 8C; R373). -/
def execRES_1_H (s : State) : Result := clearBitReg 1 .h s

/-- `RES 1,L` (bytes CB 8D; R373). -/
def execRES_1_L (s : State) : Result := clearBitReg 1 .l s

/-- `RES 1,[HL]` (bytes CB 8E; R374). -/
def execRES_1_mHL (s : State) : Result := clearBitMem 1 s

/-- `RES 1,A` (bytes CB 8F; R373). -/
def execRES_1_A (s : State) : Result := clearBitReg 1 .a s

/-- `RES 2,B` (bytes CB 90; R373). -/
def execRES_2_B (s : State) : Result := clearBitReg 2 .b s

/-- `RES 2,C` (bytes CB 91; R373). -/
def execRES_2_C (s : State) : Result := clearBitReg 2 .c s

/-- `RES 2,D` (bytes CB 92; R373). -/
def execRES_2_D (s : State) : Result := clearBitReg 2 .d s

/-- `RES 2,E` (bytes CB 93; R373). -/
def execRES_2_E (s : State) : Result := clearBitReg 2 .e s

/-- `RES 2,H` (bytes CB 94; R373). -/
def execRES_2_H (s : State) : Result := clearBitReg 2 .h s

/-- `RES 2,L` (bytes CB 95; R373). -/
def execRES_2_L (s : State) : Result := clearBitReg 2 .l s

/-- `RES 2,[HL]` (bytes CB 96; R374). -/
def execRES_2_mHL (s : State) : Result := clearBitMem 2 s

/-- `RES 2,A` (bytes CB 97; R373). -/
def execRES_2_A (s : State) : Result := clearBitReg 2 .a s

/-- `RES 3,B` (bytes CB 98; R373). -/
def execRES_3_B (s : State) : Result := clearBitReg 3 .b s

/-- `RES 3,C` (bytes CB 99; R373). -/
def execRES_3_C (s : State) : Result := clearBitReg 3 .c s

/-- `RES 3,D` (bytes CB 9A; R373). -/
def execRES_3_D (s : State) : Result := clearBitReg 3 .d s

/-- `RES 3,E` (bytes CB 9B; R373). -/
def execRES_3_E (s : State) : Result := clearBitReg 3 .e s

/-- `RES 3,H` (bytes CB 9C; R373). -/
def execRES_3_H (s : State) : Result := clearBitReg 3 .h s

/-- `RES 3,L` (bytes CB 9D; R373). -/
def execRES_3_L (s : State) : Result := clearBitReg 3 .l s

/-- `RES 3,[HL]` (bytes CB 9E; R374). -/
def execRES_3_mHL (s : State) : Result := clearBitMem 3 s

/-- `RES 3,A` (bytes CB 9F; R373). -/
def execRES_3_A (s : State) : Result := clearBitReg 3 .a s

/-- `RES 4,B` (bytes CB A0; R373). -/
def execRES_4_B (s : State) : Result := clearBitReg 4 .b s

/-- `RES 4,C` (bytes CB A1; R373). -/
def execRES_4_C (s : State) : Result := clearBitReg 4 .c s

/-- `RES 4,D` (bytes CB A2; R373). -/
def execRES_4_D (s : State) : Result := clearBitReg 4 .d s

/-- `RES 4,E` (bytes CB A3; R373). -/
def execRES_4_E (s : State) : Result := clearBitReg 4 .e s

/-- `RES 4,H` (bytes CB A4; R373). -/
def execRES_4_H (s : State) : Result := clearBitReg 4 .h s

/-- `RES 4,L` (bytes CB A5; R373). -/
def execRES_4_L (s : State) : Result := clearBitReg 4 .l s

/-- `RES 4,[HL]` (bytes CB A6; R374). -/
def execRES_4_mHL (s : State) : Result := clearBitMem 4 s

/-- `RES 4,A` (bytes CB A7; R373). -/
def execRES_4_A (s : State) : Result := clearBitReg 4 .a s

/-- `RES 5,B` (bytes CB A8; R373). -/
def execRES_5_B (s : State) : Result := clearBitReg 5 .b s

/-- `RES 5,C` (bytes CB A9; R373). -/
def execRES_5_C (s : State) : Result := clearBitReg 5 .c s

/-- `RES 5,D` (bytes CB AA; R373). -/
def execRES_5_D (s : State) : Result := clearBitReg 5 .d s

/-- `RES 5,E` (bytes CB AB; R373). -/
def execRES_5_E (s : State) : Result := clearBitReg 5 .e s

/-- `RES 5,H` (bytes CB AC; R373). -/
def execRES_5_H (s : State) : Result := clearBitReg 5 .h s

/-- `RES 5,L` (bytes CB AD; R373). -/
def execRES_5_L (s : State) : Result := clearBitReg 5 .l s

/-- `RES 5,[HL]` (bytes CB AE; R374). -/
def execRES_5_mHL (s : State) : Result := clearBitMem 5 s

/-- `RES 5,A` (bytes CB AF; R373). -/
def execRES_5_A (s : State) : Result := clearBitReg 5 .a s

/-- `RES 6,B` (bytes CB B0; R373). -/
def execRES_6_B (s : State) : Result := clearBitReg 6 .b s

/-- `RES 6,C` (bytes CB B1; R373). -/
def execRES_6_C (s : State) : Result := clearBitReg 6 .c s

/-- `RES 6,D` (bytes CB B2; R373). -/
def execRES_6_D (s : State) : Result := clearBitReg 6 .d s

/-- `RES 6,E` (bytes CB B3; R373). -/
def execRES_6_E (s : State) : Result := clearBitReg 6 .e s

/-- `RES 6,H` (bytes CB B4; R373). -/
def execRES_6_H (s : State) : Result := clearBitReg 6 .h s

/-- `RES 6,L` (bytes CB B5; R373). -/
def execRES_6_L (s : State) : Result := clearBitReg 6 .l s

/-- `RES 6,[HL]` (bytes CB B6; R374). -/
def execRES_6_mHL (s : State) : Result := clearBitMem 6 s

/-- `RES 6,A` (bytes CB B7; R373). -/
def execRES_6_A (s : State) : Result := clearBitReg 6 .a s

/-- `RES 7,B` (bytes CB B8; R373). -/
def execRES_7_B (s : State) : Result := clearBitReg 7 .b s

/-- `RES 7,C` (bytes CB B9; R373). -/
def execRES_7_C (s : State) : Result := clearBitReg 7 .c s

/-- `RES 7,D` (bytes CB BA; R373). -/
def execRES_7_D (s : State) : Result := clearBitReg 7 .d s

/-- `RES 7,E` (bytes CB BB; R373). -/
def execRES_7_E (s : State) : Result := clearBitReg 7 .e s

/-- `RES 7,H` (bytes CB BC; R373). -/
def execRES_7_H (s : State) : Result := clearBitReg 7 .h s

/-- `RES 7,L` (bytes CB BD; R373). -/
def execRES_7_L (s : State) : Result := clearBitReg 7 .l s

/-- `RES 7,[HL]` (bytes CB BE; R374). -/
def execRES_7_mHL (s : State) : Result := clearBitMem 7 s

/-- `RES 7,A` (bytes CB BF; R373). -/
def execRES_7_A (s : State) : Result := clearBitReg 7 .a s

/-- `SET 0,B` (bytes CB C0; R375). -/
def execSET_0_B (s : State) : Result := setBitReg 0 .b s

/-- `SET 0,C` (bytes CB C1; R375). -/
def execSET_0_C (s : State) : Result := setBitReg 0 .c s

/-- `SET 0,D` (bytes CB C2; R375). -/
def execSET_0_D (s : State) : Result := setBitReg 0 .d s

/-- `SET 0,E` (bytes CB C3; R375). -/
def execSET_0_E (s : State) : Result := setBitReg 0 .e s

/-- `SET 0,H` (bytes CB C4; R375). -/
def execSET_0_H (s : State) : Result := setBitReg 0 .h s

/-- `SET 0,L` (bytes CB C5; R375). -/
def execSET_0_L (s : State) : Result := setBitReg 0 .l s

/-- `SET 0,[HL]` (bytes CB C6; R376). -/
def execSET_0_mHL (s : State) : Result := setBitMem 0 s

/-- `SET 0,A` (bytes CB C7; R375). -/
def execSET_0_A (s : State) : Result := setBitReg 0 .a s

/-- `SET 1,B` (bytes CB C8; R375). -/
def execSET_1_B (s : State) : Result := setBitReg 1 .b s

/-- `SET 1,C` (bytes CB C9; R375). -/
def execSET_1_C (s : State) : Result := setBitReg 1 .c s

/-- `SET 1,D` (bytes CB CA; R375). -/
def execSET_1_D (s : State) : Result := setBitReg 1 .d s

/-- `SET 1,E` (bytes CB CB; R375). -/
def execSET_1_E (s : State) : Result := setBitReg 1 .e s

/-- `SET 1,H` (bytes CB CC; R375). -/
def execSET_1_H (s : State) : Result := setBitReg 1 .h s

/-- `SET 1,L` (bytes CB CD; R375). -/
def execSET_1_L (s : State) : Result := setBitReg 1 .l s

/-- `SET 1,[HL]` (bytes CB CE; R376). -/
def execSET_1_mHL (s : State) : Result := setBitMem 1 s

/-- `SET 1,A` (bytes CB CF; R375). -/
def execSET_1_A (s : State) : Result := setBitReg 1 .a s

/-- `SET 2,B` (bytes CB D0; R375). -/
def execSET_2_B (s : State) : Result := setBitReg 2 .b s

/-- `SET 2,C` (bytes CB D1; R375). -/
def execSET_2_C (s : State) : Result := setBitReg 2 .c s

/-- `SET 2,D` (bytes CB D2; R375). -/
def execSET_2_D (s : State) : Result := setBitReg 2 .d s

/-- `SET 2,E` (bytes CB D3; R375). -/
def execSET_2_E (s : State) : Result := setBitReg 2 .e s

/-- `SET 2,H` (bytes CB D4; R375). -/
def execSET_2_H (s : State) : Result := setBitReg 2 .h s

/-- `SET 2,L` (bytes CB D5; R375). -/
def execSET_2_L (s : State) : Result := setBitReg 2 .l s

/-- `SET 2,[HL]` (bytes CB D6; R376). -/
def execSET_2_mHL (s : State) : Result := setBitMem 2 s

/-- `SET 2,A` (bytes CB D7; R375). -/
def execSET_2_A (s : State) : Result := setBitReg 2 .a s

/-- `SET 3,B` (bytes CB D8; R375). -/
def execSET_3_B (s : State) : Result := setBitReg 3 .b s

/-- `SET 3,C` (bytes CB D9; R375). -/
def execSET_3_C (s : State) : Result := setBitReg 3 .c s

/-- `SET 3,D` (bytes CB DA; R375). -/
def execSET_3_D (s : State) : Result := setBitReg 3 .d s

/-- `SET 3,E` (bytes CB DB; R375). -/
def execSET_3_E (s : State) : Result := setBitReg 3 .e s

/-- `SET 3,H` (bytes CB DC; R375). -/
def execSET_3_H (s : State) : Result := setBitReg 3 .h s

/-- `SET 3,L` (bytes CB DD; R375). -/
def execSET_3_L (s : State) : Result := setBitReg 3 .l s

/-- `SET 3,[HL]` (bytes CB DE; R376). -/
def execSET_3_mHL (s : State) : Result := setBitMem 3 s

/-- `SET 3,A` (bytes CB DF; R375). -/
def execSET_3_A (s : State) : Result := setBitReg 3 .a s

/-- `SET 4,B` (bytes CB E0; R375). -/
def execSET_4_B (s : State) : Result := setBitReg 4 .b s

/-- `SET 4,C` (bytes CB E1; R375). -/
def execSET_4_C (s : State) : Result := setBitReg 4 .c s

/-- `SET 4,D` (bytes CB E2; R375). -/
def execSET_4_D (s : State) : Result := setBitReg 4 .d s

/-- `SET 4,E` (bytes CB E3; R375). -/
def execSET_4_E (s : State) : Result := setBitReg 4 .e s

/-- `SET 4,H` (bytes CB E4; R375). -/
def execSET_4_H (s : State) : Result := setBitReg 4 .h s

/-- `SET 4,L` (bytes CB E5; R375). -/
def execSET_4_L (s : State) : Result := setBitReg 4 .l s

/-- `SET 4,[HL]` (bytes CB E6; R376). -/
def execSET_4_mHL (s : State) : Result := setBitMem 4 s

/-- `SET 4,A` (bytes CB E7; R375). -/
def execSET_4_A (s : State) : Result := setBitReg 4 .a s

/-- `SET 5,B` (bytes CB E8; R375). -/
def execSET_5_B (s : State) : Result := setBitReg 5 .b s

/-- `SET 5,C` (bytes CB E9; R375). -/
def execSET_5_C (s : State) : Result := setBitReg 5 .c s

/-- `SET 5,D` (bytes CB EA; R375). -/
def execSET_5_D (s : State) : Result := setBitReg 5 .d s

/-- `SET 5,E` (bytes CB EB; R375). -/
def execSET_5_E (s : State) : Result := setBitReg 5 .e s

/-- `SET 5,H` (bytes CB EC; R375). -/
def execSET_5_H (s : State) : Result := setBitReg 5 .h s

/-- `SET 5,L` (bytes CB ED; R375). -/
def execSET_5_L (s : State) : Result := setBitReg 5 .l s

/-- `SET 5,[HL]` (bytes CB EE; R376). -/
def execSET_5_mHL (s : State) : Result := setBitMem 5 s

/-- `SET 5,A` (bytes CB EF; R375). -/
def execSET_5_A (s : State) : Result := setBitReg 5 .a s

/-- `SET 6,B` (bytes CB F0; R375). -/
def execSET_6_B (s : State) : Result := setBitReg 6 .b s

/-- `SET 6,C` (bytes CB F1; R375). -/
def execSET_6_C (s : State) : Result := setBitReg 6 .c s

/-- `SET 6,D` (bytes CB F2; R375). -/
def execSET_6_D (s : State) : Result := setBitReg 6 .d s

/-- `SET 6,E` (bytes CB F3; R375). -/
def execSET_6_E (s : State) : Result := setBitReg 6 .e s

/-- `SET 6,H` (bytes CB F4; R375). -/
def execSET_6_H (s : State) : Result := setBitReg 6 .h s

/-- `SET 6,L` (bytes CB F5; R375). -/
def execSET_6_L (s : State) : Result := setBitReg 6 .l s

/-- `SET 6,[HL]` (bytes CB F6; R376). -/
def execSET_6_mHL (s : State) : Result := setBitMem 6 s

/-- `SET 6,A` (bytes CB F7; R375). -/
def execSET_6_A (s : State) : Result := setBitReg 6 .a s

/-- `SET 7,B` (bytes CB F8; R375). -/
def execSET_7_B (s : State) : Result := setBitReg 7 .b s

/-- `SET 7,C` (bytes CB F9; R375). -/
def execSET_7_C (s : State) : Result := setBitReg 7 .c s

/-- `SET 7,D` (bytes CB FA; R375). -/
def execSET_7_D (s : State) : Result := setBitReg 7 .d s

/-- `SET 7,E` (bytes CB FB; R375). -/
def execSET_7_E (s : State) : Result := setBitReg 7 .e s

/-- `SET 7,H` (bytes CB FC; R375). -/
def execSET_7_H (s : State) : Result := setBitReg 7 .h s

/-- `SET 7,L` (bytes CB FD; R375). -/
def execSET_7_L (s : State) : Result := setBitReg 7 .l s

/-- `SET 7,[HL]` (bytes CB FE; R376). -/
def execSET_7_mHL (s : State) : Result := setBitMem 7 s

/-- `SET 7,A` (bytes CB FF; R375). -/
def execSET_7_A (s : State) : Result := setBitReg 7 .a s

end Sys2Proof.Machine
end

