-- ==== Sys2Proof/Machine/Control.lean ====
section
/-! DEFINITION. Control transfer (45_control.md). PC holds `PCnext` when a routine runs, conditions are read
before anything changes, no flag changes, and no target is checked. -/

namespace Sys2Proof.Machine

/-! ### Shared operations -/

/-- `PC <- (PCnext + sext_16(imm8)) mod 65536` (R403). -/
def State.jumpRelative (s : State) (e : Byte) : State := s.setPc (s.pc + sext16 e)

/-- `push16(PCnext); PC <- target` (R405). -/
def State.call (s : State) (target : Word) : State := (s.push16 s.pc).setPc target

/-- `PC <- pop16()` (R407). -/
def State.ret (s : State) : State := s.dropStack.setPc s.stackTop

/-- `JP cc,nn` (R401): 16 cycles taken, 12 not. -/
def jumpIf (cc : Cond) (nn : Word) (s : State) : Result :=
  if s.cond cc then done 16 (s.setPc nn) else done 12 s

/-- `JR cc,e8` (R404): 12 cycles taken, 8 not. -/
def jumpRelativeIf (cc : Cond) (e : Byte) (s : State) : Result :=
  if s.cond cc then done 12 (s.jumpRelative e) else done 8 s

/-- `CALL cc,nn` (R406): 24 cycles taken, 12 not. -/
def callIf (cc : Cond) (nn : Word) (s : State) : Result :=
  if s.cond cc then done 24 (s.call nn) else done 12 s

/-- `RET cc` (R408): 20 cycles taken, 8 not. -/
def retIf (cc : Cond) (s : State) : Result :=
  if s.cond cc then done 20 s.ret else done 8 s

/-! ### One meaning per row of the table -/

/-- `JR e8` (bytes 18 e; R403). -/
def execJR_e8 (e : Byte) (s : State) : Result := done 12 (s.jumpRelative e)

/-- `JR NZ,e8` (bytes 20 e; R404). -/
def execJR_NZ_e8 (e : Byte) (s : State) : Result := jumpRelativeIf .nz e s

/-- `JR Z,e8` (bytes 28 e; R404). -/
def execJR_Z_e8 (e : Byte) (s : State) : Result := jumpRelativeIf .z e s

/-- `JR NC,e8` (bytes 30 e; R404). -/
def execJR_NC_e8 (e : Byte) (s : State) : Result := jumpRelativeIf .nc e s

/-- `JR C,e8` (bytes 38 e; R404). -/
def execJR_C_e8 (e : Byte) (s : State) : Result := jumpRelativeIf .c e s

/-- `RET NZ` (byte C0; R408). -/
def execRET_NZ (s : State) : Result := retIf .nz s

/-- `JP NZ,nn` (bytes C2 lo hi; R401). -/
def execJP_NZ_nn (nn : Word) (s : State) : Result := jumpIf .nz nn s

/-- `JP nn` (bytes C3 lo hi; R400). -/
def execJP_nn (nn : Word) (s : State) : Result := done 16 (s.setPc nn)

/-- `CALL NZ,nn` (bytes C4 lo hi; R406). -/
def execCALL_NZ_nn (nn : Word) (s : State) : Result := callIf .nz nn s

/-- `RST 0x00` (byte C7; R410). -/
def execRST_0x00 (s : State) : Result := done 16 (s.call 0x0000)

/-- `RET Z` (byte C8; R408). -/
def execRET_Z (s : State) : Result := retIf .z s

/-- `RET` (byte C9; R407). -/
def execRET (s : State) : Result := done 16 s.ret

/-- `JP Z,nn` (bytes CA lo hi; R401). -/
def execJP_Z_nn (nn : Word) (s : State) : Result := jumpIf .z nn s

/-- `CALL Z,nn` (bytes CC lo hi; R406). -/
def execCALL_Z_nn (nn : Word) (s : State) : Result := callIf .z nn s

/-- `CALL nn` (bytes CD lo hi; R405). -/
def execCALL_nn (nn : Word) (s : State) : Result := done 24 (s.call nn)

/-- `RST 0x08` (byte CF; R410). -/
def execRST_0x08 (s : State) : Result := done 16 (s.call 0x0008)

/-- `RET NC` (byte D0; R408). -/
def execRET_NC (s : State) : Result := retIf .nc s

/-- `JP NC,nn` (bytes D2 lo hi; R401). -/
def execJP_NC_nn (nn : Word) (s : State) : Result := jumpIf .nc nn s

/-- `CALL NC,nn` (bytes D4 lo hi; R406). -/
def execCALL_NC_nn (nn : Word) (s : State) : Result := callIf .nc nn s

/-- `RST 0x10` (byte D7; R410). -/
def execRST_0x10 (s : State) : Result := done 16 (s.call 0x0010)

/-- `RET C` (byte D8; R408). -/
def execRET_C (s : State) : Result := retIf .c s

/-- `RETI` (byte D9; R409). -/
def execRETI (s : State) : Result := done 16 s.returnFromInterrupt

/-- `JP C,nn` (bytes DA lo hi; R401). -/
def execJP_C_nn (nn : Word) (s : State) : Result := jumpIf .c nn s

/-- `CALL C,nn` (bytes DC lo hi; R406). -/
def execCALL_C_nn (nn : Word) (s : State) : Result := callIf .c nn s

/-- `RST 0x18` (byte DF; R410). -/
def execRST_0x18 (s : State) : Result := done 16 (s.call 0x0018)

/-- `RST 0x20` (byte E7; R410). -/
def execRST_0x20 (s : State) : Result := done 16 (s.call 0x0020)

/-- `JP HL` (byte E9; R402). -/
def execJP_HL (s : State) : Result := done 4 (s.setPc s.hl)

/-- `RST 0x28` (byte EF; R410). -/
def execRST_0x28 (s : State) : Result := done 16 (s.call 0x0028)

/-- `RST 0x30` (byte F7; R410). -/
def execRST_0x30 (s : State) : Result := done 16 (s.call 0x0030)

/-- `RST 0x38` (byte FF; R410). -/
def execRST_0x38 (s : State) : Result := done 16 (s.call 0x0038)

end Sys2Proof.Machine
end

