-- ==== Sys2Proof/Machine/Loads16.lean ====
section
/-! DEFINITION. The 16-bit loads and the stack (41_loads_16bit.md). -/

namespace Sys2Proof.Machine

/-! ### Shared operations -/

/-- A load of a pair or SP with an immediate word (R200). -/
def loadPair (p : Pair) (nn : Word) (s : State) : Result := done 12 (s.setPair p nn)

/-- A push of a pair (R203). -/
def pushPair (p : StkPair) (s : State) : Result := done 16 (s.push16 (s.stkPair p))

/-- A pop into a pair (R204). -/
def popPair (p : StkPair) (s : State) : Result := done 12 (s.dropStack.setStkPair p s.stackTop)

/-- HL loaded with SP plus a signed offset (R205): Z = 0, N = 0, H and C by 43_alu_16bit.md R300. -/
def loadHlSp (e : Byte) (s : State) : Result :=
  let (res, h, c) := addSpE8 s.sp e
  done 12 ((s.setHl res).setFlags false false h c)

/-! ### One meaning per row of the table -/

/-- `LD BC,nn` (bytes 01 lo hi; R200). -/
def execLD_BC_nn (nn : Word) (s : State) : Result := loadPair .bc nn s

/-- `LD [nn],SP` (bytes 08 lo hi; R201). -/
def execLD_mnn_SP (nn : Word) (s : State) : Result := done 20 (s.write16 nn s.sp)

/-- `LD DE,nn` (bytes 11 lo hi; R200). -/
def execLD_DE_nn (nn : Word) (s : State) : Result := loadPair .de nn s

/-- `LD HL,nn` (bytes 21 lo hi; R200). -/
def execLD_HL_nn (nn : Word) (s : State) : Result := loadPair .hl nn s

/-- `LD SP,nn` (bytes 31 lo hi; R200). -/
def execLD_SP_nn (nn : Word) (s : State) : Result := loadPair .sp nn s

/-- `POP BC` (byte C1; R204). -/
def execPOP_BC (s : State) : Result := popPair .bc s

/-- `PUSH BC` (byte C5; R203). -/
def execPUSH_BC (s : State) : Result := pushPair .bc s

/-- `POP DE` (byte D1; R204). -/
def execPOP_DE (s : State) : Result := popPair .de s

/-- `PUSH DE` (byte D5; R203). -/
def execPUSH_DE (s : State) : Result := pushPair .de s

/-- `POP HL` (byte E1; R204). -/
def execPOP_HL (s : State) : Result := popPair .hl s

/-- `PUSH HL` (byte E5; R203). -/
def execPUSH_HL (s : State) : Result := pushPair .hl s

/-- `POP AF` (byte F1; R204). -/
def execPOP_AF (s : State) : Result := popPair .af s

/-- `PUSH AF` (byte F5; R203). -/
def execPUSH_AF (s : State) : Result := pushPair .af s

/-- `LD HL,SP+e8` (bytes F8 e; R205). -/
def execLD_HL_SP_e8 (e : Byte) (s : State) : Result := loadHlSp e s

/-- `LD SP,HL` (byte F9; R202). -/
def execLD_SP_HL (s : State) : Result := done 8 (s.setSp s.hl)

end Sys2Proof.Machine
end

