-- ==== Sys2Proof/Machine/Loads8.lean ====
section
/-! DEFINITION. The 8-bit loads (40_loads_8bit.md): no load changes a flag, none faults. -/

namespace Sys2Proof.Machine

/-! ### Shared operations -/

/-- A load of register `dst` from register `src` (R150). -/
def loadReg (dst src : Reg8) (s : State) : Result := done 4 (s.setReg dst (s.reg src))

/-- A load of register `dst` with an immediate byte (R151). -/
def loadImm (dst : Reg8) (n : Byte) (s : State) : Result := done 8 (s.setReg dst n)

/-- A load of register `dst` from the byte at `addr`, at a cost of `cost` cycles. -/
def loadMem (cost : Nat) (dst : Reg8) (addr : Word) (s : State) : Result :=
  done cost (s.setReg dst (s.read addr))

/-- A store of `v` to the byte at `addr`, at a cost of `cost` cycles. -/
def storeMem (cost : Nat) (addr : Word) (v : Byte) (s : State) : Result := done cost (s.write addr v)

/-- A load of A from the byte at HL, after which HL is `next` (R165, R166). -/
def loadHlThen (next : Word) (s : State) : Result := done 8 ((s.setReg .a s.readHl).setHl next)

/-- A store of A to the byte at HL, after which HL is `next` (R167, R168). -/
def storeHlThen (next : Word) (s : State) : Result := done 8 ((s.writeHl s.a).setHl next)

/-! ### One meaning per row of the table -/

/-- `LD [BC],A` (byte 02; R157). -/
def execLD_mBC_A (s : State) : Result := storeMem 8 s.bc s.a s

/-- `LD B,n` (bytes 06 n; R151). -/
def execLD_B_n (n : Byte) (s : State) : Result := loadImm .b n s

/-- `LD A,[BC]` (byte 0A; R155). -/
def execLD_A_mBC (s : State) : Result := loadMem 8 .a s.bc s

/-- `LD C,n` (bytes 0E n; R151). -/
def execLD_C_n (n : Byte) (s : State) : Result := loadImm .c n s

/-- `LD [DE],A` (byte 12; R158). -/
def execLD_mDE_A (s : State) : Result := storeMem 8 s.de s.a s

/-- `LD D,n` (bytes 16 n; R151). -/
def execLD_D_n (n : Byte) (s : State) : Result := loadImm .d n s

/-- `LD A,[DE]` (byte 1A; R156). -/
def execLD_A_mDE (s : State) : Result := loadMem 8 .a s.de s

/-- `LD E,n` (bytes 1E n; R151). -/
def execLD_E_n (n : Byte) (s : State) : Result := loadImm .e n s

/-- `LD [HL+],A` (byte 22; R167). -/
def execLD_mHLI_A (s : State) : Result := storeHlThen (s.hl + 1) s

/-- `LD H,n` (bytes 26 n; R151). -/
def execLD_H_n (n : Byte) (s : State) : Result := loadImm .h n s

/-- `LD A,[HL+]` (byte 2A; R165). -/
def execLD_A_mHLI (s : State) : Result := loadHlThen (s.hl + 1) s

/-- `LD L,n` (bytes 2E n; R151). -/
def execLD_L_n (n : Byte) (s : State) : Result := loadImm .l n s

/-- `LD [HL-],A` (byte 32; R168). -/
def execLD_mHLD_A (s : State) : Result := storeHlThen (s.hl - 1) s

/-- `LD [HL],n` (bytes 36 n; R154). -/
def execLD_mHL_n (n : Byte) (s : State) : Result := storeMem 12 s.hl n s

/-- `LD A,[HL-]` (byte 3A; R166). -/
def execLD_A_mHLD (s : State) : Result := loadHlThen (s.hl - 1) s

/-- `LD A,n` (bytes 3E n; R151). -/
def execLD_A_n (n : Byte) (s : State) : Result := loadImm .a n s

/-- `LD B,B` (byte 40; R150). -/
def execLD_B_B (s : State) : Result := loadReg .b .b s

/-- `LD B,C` (byte 41; R150). -/
def execLD_B_C (s : State) : Result := loadReg .b .c s

/-- `LD B,D` (byte 42; R150). -/
def execLD_B_D (s : State) : Result := loadReg .b .d s

/-- `LD B,E` (byte 43; R150). -/
def execLD_B_E (s : State) : Result := loadReg .b .e s

/-- `LD B,H` (byte 44; R150). -/
def execLD_B_H (s : State) : Result := loadReg .b .h s

/-- `LD B,L` (byte 45; R150). -/
def execLD_B_L (s : State) : Result := loadReg .b .l s

/-- `LD B,[HL]` (byte 46; R152). -/
def execLD_B_mHL (s : State) : Result := loadMem 8 .b s.hl s

/-- `LD B,A` (byte 47; R150). -/
def execLD_B_A (s : State) : Result := loadReg .b .a s

/-- `LD C,B` (byte 48; R150). -/
def execLD_C_B (s : State) : Result := loadReg .c .b s

/-- `LD C,C` (byte 49; R150). -/
def execLD_C_C (s : State) : Result := loadReg .c .c s

/-- `LD C,D` (byte 4A; R150). -/
def execLD_C_D (s : State) : Result := loadReg .c .d s

/-- `LD C,E` (byte 4B; R150). -/
def execLD_C_E (s : State) : Result := loadReg .c .e s

/-- `LD C,H` (byte 4C; R150). -/
def execLD_C_H (s : State) : Result := loadReg .c .h s

/-- `LD C,L` (byte 4D; R150). -/
def execLD_C_L (s : State) : Result := loadReg .c .l s

/-- `LD C,[HL]` (byte 4E; R152). -/
def execLD_C_mHL (s : State) : Result := loadMem 8 .c s.hl s

/-- `LD C,A` (byte 4F; R150). -/
def execLD_C_A (s : State) : Result := loadReg .c .a s

/-- `LD D,B` (byte 50; R150). -/
def execLD_D_B (s : State) : Result := loadReg .d .b s

/-- `LD D,C` (byte 51; R150). -/
def execLD_D_C (s : State) : Result := loadReg .d .c s

/-- `LD D,D` (byte 52; R150). -/
def execLD_D_D (s : State) : Result := loadReg .d .d s

/-- `LD D,E` (byte 53; R150). -/
def execLD_D_E (s : State) : Result := loadReg .d .e s

/-- `LD D,H` (byte 54; R150). -/
def execLD_D_H (s : State) : Result := loadReg .d .h s

/-- `LD D,L` (byte 55; R150). -/
def execLD_D_L (s : State) : Result := loadReg .d .l s

/-- `LD D,[HL]` (byte 56; R152). -/
def execLD_D_mHL (s : State) : Result := loadMem 8 .d s.hl s

/-- `LD D,A` (byte 57; R150). -/
def execLD_D_A (s : State) : Result := loadReg .d .a s

/-- `LD E,B` (byte 58; R150). -/
def execLD_E_B (s : State) : Result := loadReg .e .b s

/-- `LD E,C` (byte 59; R150). -/
def execLD_E_C (s : State) : Result := loadReg .e .c s

/-- `LD E,D` (byte 5A; R150). -/
def execLD_E_D (s : State) : Result := loadReg .e .d s

/-- `LD E,E` (byte 5B; R150). -/
def execLD_E_E (s : State) : Result := loadReg .e .e s

/-- `LD E,H` (byte 5C; R150). -/
def execLD_E_H (s : State) : Result := loadReg .e .h s

/-- `LD E,L` (byte 5D; R150). -/
def execLD_E_L (s : State) : Result := loadReg .e .l s

/-- `LD E,[HL]` (byte 5E; R152). -/
def execLD_E_mHL (s : State) : Result := loadMem 8 .e s.hl s

/-- `LD E,A` (byte 5F; R150). -/
def execLD_E_A (s : State) : Result := loadReg .e .a s

/-- `LD H,B` (byte 60; R150). -/
def execLD_H_B (s : State) : Result := loadReg .h .b s

/-- `LD H,C` (byte 61; R150). -/
def execLD_H_C (s : State) : Result := loadReg .h .c s

/-- `LD H,D` (byte 62; R150). -/
def execLD_H_D (s : State) : Result := loadReg .h .d s

/-- `LD H,E` (byte 63; R150). -/
def execLD_H_E (s : State) : Result := loadReg .h .e s

/-- `LD H,H` (byte 64; R150). -/
def execLD_H_H (s : State) : Result := loadReg .h .h s

/-- `LD H,L` (byte 65; R150). -/
def execLD_H_L (s : State) : Result := loadReg .h .l s

/-- `LD H,[HL]` (byte 66; R152). -/
def execLD_H_mHL (s : State) : Result := loadMem 8 .h s.hl s

/-- `LD H,A` (byte 67; R150). -/
def execLD_H_A (s : State) : Result := loadReg .h .a s

/-- `LD L,B` (byte 68; R150). -/
def execLD_L_B (s : State) : Result := loadReg .l .b s

/-- `LD L,C` (byte 69; R150). -/
def execLD_L_C (s : State) : Result := loadReg .l .c s

/-- `LD L,D` (byte 6A; R150). -/
def execLD_L_D (s : State) : Result := loadReg .l .d s

/-- `LD L,E` (byte 6B; R150). -/
def execLD_L_E (s : State) : Result := loadReg .l .e s

/-- `LD L,H` (byte 6C; R150). -/
def execLD_L_H (s : State) : Result := loadReg .l .h s

/-- `LD L,L` (byte 6D; R150). -/
def execLD_L_L (s : State) : Result := loadReg .l .l s

/-- `LD L,[HL]` (byte 6E; R152). -/
def execLD_L_mHL (s : State) : Result := loadMem 8 .l s.hl s

/-- `LD L,A` (byte 6F; R150). -/
def execLD_L_A (s : State) : Result := loadReg .l .a s

/-- `LD [HL],B` (byte 70; R153). -/
def execLD_mHL_B (s : State) : Result := storeMem 8 s.hl (s.reg .b) s

/-- `LD [HL],C` (byte 71; R153). -/
def execLD_mHL_C (s : State) : Result := storeMem 8 s.hl (s.reg .c) s

/-- `LD [HL],D` (byte 72; R153). -/
def execLD_mHL_D (s : State) : Result := storeMem 8 s.hl (s.reg .d) s

/-- `LD [HL],E` (byte 73; R153). -/
def execLD_mHL_E (s : State) : Result := storeMem 8 s.hl (s.reg .e) s

/-- `LD [HL],H` (byte 74; R153). -/
def execLD_mHL_H (s : State) : Result := storeMem 8 s.hl (s.reg .h) s

/-- `LD [HL],L` (byte 75; R153). -/
def execLD_mHL_L (s : State) : Result := storeMem 8 s.hl (s.reg .l) s

/-- `LD [HL],A` (byte 77; R153). -/
def execLD_mHL_A (s : State) : Result := storeMem 8 s.hl (s.reg .a) s

/-- `LD A,B` (byte 78; R150). -/
def execLD_A_B (s : State) : Result := loadReg .a .b s

/-- `LD A,C` (byte 79; R150). -/
def execLD_A_C (s : State) : Result := loadReg .a .c s

/-- `LD A,D` (byte 7A; R150). -/
def execLD_A_D (s : State) : Result := loadReg .a .d s

/-- `LD A,E` (byte 7B; R150). -/
def execLD_A_E (s : State) : Result := loadReg .a .e s

/-- `LD A,H` (byte 7C; R150). -/
def execLD_A_H (s : State) : Result := loadReg .a .h s

/-- `LD A,L` (byte 7D; R150). -/
def execLD_A_L (s : State) : Result := loadReg .a .l s

/-- `LD A,[HL]` (byte 7E; R152). -/
def execLD_A_mHL (s : State) : Result := loadMem 8 .a s.hl s

/-- `LD A,A` (byte 7F; R150). -/
def execLD_A_A (s : State) : Result := loadReg .a .a s

/-- `LDH [n],A` (bytes E0 n; R162). -/
def execLDH_mn_A (n : Byte) (s : State) : Result := storeMem 12 (highPage n) s.a s

/-- `LDH [C],A` (byte E2; R164). -/
def execLDH_mC_A (s : State) : Result := storeMem 8 (highPage s.c) s.a s

/-- `LD [nn],A` (bytes EA lo hi; R160). -/
def execLD_mnn_A (nn : Word) (s : State) : Result := storeMem 16 nn s.a s

/-- `LDH A,[n]` (bytes F0 n; R161). -/
def execLDH_A_mn (n : Byte) (s : State) : Result := loadMem 12 .a (highPage n) s

/-- `LDH A,[C]` (byte F2; R163). -/
def execLDH_A_mC (s : State) : Result := loadMem 8 .a (highPage s.c) s

/-- `LD A,[nn]` (bytes FA lo hi; R159). -/
def execLD_A_mnn (nn : Word) (s : State) : Result := loadMem 16 .a nn s

end Sys2Proof.Machine
end

