-- ==== Sys2Proof/Machine/RotateShift.lean ====
section
/-! DEFINITION. The rotates and shifts (44_rotate_shift_bit.md R350 to R370). -/

namespace Sys2Proof.Machine

/-! ### Shared operations -/

/-- A rotate of A (R351 to R354): Z is cleared whatever the result. -/
def rotateA (op : ShiftOp) (s : State) : Result :=
  let (res, co) := shiftCompute op s.a s.flagC
  done 4 ((s.setReg .a res).setFlags false false false co)

/-- The register form of a 0xCB rotate or shift. -/
def shiftReg (op : ShiftOp) (r : Reg8) (s : State) : Result :=
  let (res, co) := shiftCompute op (s.reg r) s.flagC
  done 8 ((s.setReg r res).setFlags (res == 0) false false co)

/-- The `[HL]` form of a 0xCB rotate or shift: the flags are those of the byte read, whether or not the
write-back lands. -/
def shiftMem (op : ShiftOp) (s : State) : Result :=
  let (res, co) := shiftCompute op s.readHl s.flagC
  done 16 ((s.writeHl res).setFlags (res == 0) false false co)

/-! ### One meaning per row of the table -/

/-- `RLCA` (byte 07; R351). -/
def execRLCA (s : State) : Result := rotateA .rlc s

/-- `RRCA` (byte 0F; R352). -/
def execRRCA (s : State) : Result := rotateA .rrc s

/-- `RLA` (byte 17; R353). -/
def execRLA (s : State) : Result := rotateA .rl s

/-- `RRA` (byte 1F; R354). -/
def execRRA (s : State) : Result := rotateA .rr s

/-- `RLC B` (bytes CB 00; R355). -/
def execRLC_B (s : State) : Result := shiftReg .rlc .b s

/-- `RLC C` (bytes CB 01; R355). -/
def execRLC_C (s : State) : Result := shiftReg .rlc .c s

/-- `RLC D` (bytes CB 02; R355). -/
def execRLC_D (s : State) : Result := shiftReg .rlc .d s

/-- `RLC E` (bytes CB 03; R355). -/
def execRLC_E (s : State) : Result := shiftReg .rlc .e s

/-- `RLC H` (bytes CB 04; R355). -/
def execRLC_H (s : State) : Result := shiftReg .rlc .h s

/-- `RLC L` (bytes CB 05; R355). -/
def execRLC_L (s : State) : Result := shiftReg .rlc .l s

/-- `RLC [HL]` (bytes CB 06; R356). -/
def execRLC_mHL (s : State) : Result := shiftMem .rlc s

/-- `RLC A` (bytes CB 07; R355). -/
def execRLC_A (s : State) : Result := shiftReg .rlc .a s

/-- `RRC B` (bytes CB 08; R357). -/
def execRRC_B (s : State) : Result := shiftReg .rrc .b s

/-- `RRC C` (bytes CB 09; R357). -/
def execRRC_C (s : State) : Result := shiftReg .rrc .c s

/-- `RRC D` (bytes CB 0A; R357). -/
def execRRC_D (s : State) : Result := shiftReg .rrc .d s

/-- `RRC E` (bytes CB 0B; R357). -/
def execRRC_E (s : State) : Result := shiftReg .rrc .e s

/-- `RRC H` (bytes CB 0C; R357). -/
def execRRC_H (s : State) : Result := shiftReg .rrc .h s

/-- `RRC L` (bytes CB 0D; R357). -/
def execRRC_L (s : State) : Result := shiftReg .rrc .l s

/-- `RRC [HL]` (bytes CB 0E; R358). -/
def execRRC_mHL (s : State) : Result := shiftMem .rrc s

/-- `RRC A` (bytes CB 0F; R357). -/
def execRRC_A (s : State) : Result := shiftReg .rrc .a s

/-- `RL B` (bytes CB 10; R359). -/
def execRL_B (s : State) : Result := shiftReg .rl .b s

/-- `RL C` (bytes CB 11; R359). -/
def execRL_C (s : State) : Result := shiftReg .rl .c s

/-- `RL D` (bytes CB 12; R359). -/
def execRL_D (s : State) : Result := shiftReg .rl .d s

/-- `RL E` (bytes CB 13; R359). -/
def execRL_E (s : State) : Result := shiftReg .rl .e s

/-- `RL H` (bytes CB 14; R359). -/
def execRL_H (s : State) : Result := shiftReg .rl .h s

/-- `RL L` (bytes CB 15; R359). -/
def execRL_L (s : State) : Result := shiftReg .rl .l s

/-- `RL [HL]` (bytes CB 16; R360). -/
def execRL_mHL (s : State) : Result := shiftMem .rl s

/-- `RL A` (bytes CB 17; R359). -/
def execRL_A (s : State) : Result := shiftReg .rl .a s

/-- `RR B` (bytes CB 18; R361). -/
def execRR_B (s : State) : Result := shiftReg .rr .b s

/-- `RR C` (bytes CB 19; R361). -/
def execRR_C (s : State) : Result := shiftReg .rr .c s

/-- `RR D` (bytes CB 1A; R361). -/
def execRR_D (s : State) : Result := shiftReg .rr .d s

/-- `RR E` (bytes CB 1B; R361). -/
def execRR_E (s : State) : Result := shiftReg .rr .e s

/-- `RR H` (bytes CB 1C; R361). -/
def execRR_H (s : State) : Result := shiftReg .rr .h s

/-- `RR L` (bytes CB 1D; R361). -/
def execRR_L (s : State) : Result := shiftReg .rr .l s

/-- `RR [HL]` (bytes CB 1E; R362). -/
def execRR_mHL (s : State) : Result := shiftMem .rr s

/-- `RR A` (bytes CB 1F; R361). -/
def execRR_A (s : State) : Result := shiftReg .rr .a s

/-- `SLA B` (bytes CB 20; R363). -/
def execSLA_B (s : State) : Result := shiftReg .sla .b s

/-- `SLA C` (bytes CB 21; R363). -/
def execSLA_C (s : State) : Result := shiftReg .sla .c s

/-- `SLA D` (bytes CB 22; R363). -/
def execSLA_D (s : State) : Result := shiftReg .sla .d s

/-- `SLA E` (bytes CB 23; R363). -/
def execSLA_E (s : State) : Result := shiftReg .sla .e s

/-- `SLA H` (bytes CB 24; R363). -/
def execSLA_H (s : State) : Result := shiftReg .sla .h s

/-- `SLA L` (bytes CB 25; R363). -/
def execSLA_L (s : State) : Result := shiftReg .sla .l s

/-- `SLA [HL]` (bytes CB 26; R364). -/
def execSLA_mHL (s : State) : Result := shiftMem .sla s

/-- `SLA A` (bytes CB 27; R363). -/
def execSLA_A (s : State) : Result := shiftReg .sla .a s

/-- `SRA B` (bytes CB 28; R365). -/
def execSRA_B (s : State) : Result := shiftReg .sra .b s

/-- `SRA C` (bytes CB 29; R365). -/
def execSRA_C (s : State) : Result := shiftReg .sra .c s

/-- `SRA D` (bytes CB 2A; R365). -/
def execSRA_D (s : State) : Result := shiftReg .sra .d s

/-- `SRA E` (bytes CB 2B; R365). -/
def execSRA_E (s : State) : Result := shiftReg .sra .e s

/-- `SRA H` (bytes CB 2C; R365). -/
def execSRA_H (s : State) : Result := shiftReg .sra .h s

/-- `SRA L` (bytes CB 2D; R365). -/
def execSRA_L (s : State) : Result := shiftReg .sra .l s

/-- `SRA [HL]` (bytes CB 2E; R366). -/
def execSRA_mHL (s : State) : Result := shiftMem .sra s

/-- `SRA A` (bytes CB 2F; R365). -/
def execSRA_A (s : State) : Result := shiftReg .sra .a s

/-- `SWAP B` (bytes CB 30; R367). -/
def execSWAP_B (s : State) : Result := shiftReg .swap .b s

/-- `SWAP C` (bytes CB 31; R367). -/
def execSWAP_C (s : State) : Result := shiftReg .swap .c s

/-- `SWAP D` (bytes CB 32; R367). -/
def execSWAP_D (s : State) : Result := shiftReg .swap .d s

/-- `SWAP E` (bytes CB 33; R367). -/
def execSWAP_E (s : State) : Result := shiftReg .swap .e s

/-- `SWAP H` (bytes CB 34; R367). -/
def execSWAP_H (s : State) : Result := shiftReg .swap .h s

/-- `SWAP L` (bytes CB 35; R367). -/
def execSWAP_L (s : State) : Result := shiftReg .swap .l s

/-- `SWAP [HL]` (bytes CB 36; R368). -/
def execSWAP_mHL (s : State) : Result := shiftMem .swap s

/-- `SWAP A` (bytes CB 37; R367). -/
def execSWAP_A (s : State) : Result := shiftReg .swap .a s

/-- `SRL B` (bytes CB 38; R369). -/
def execSRL_B (s : State) : Result := shiftReg .srl .b s

/-- `SRL C` (bytes CB 39; R369). -/
def execSRL_C (s : State) : Result := shiftReg .srl .c s

/-- `SRL D` (bytes CB 3A; R369). -/
def execSRL_D (s : State) : Result := shiftReg .srl .d s

/-- `SRL E` (bytes CB 3B; R369). -/
def execSRL_E (s : State) : Result := shiftReg .srl .e s

/-- `SRL H` (bytes CB 3C; R369). -/
def execSRL_H (s : State) : Result := shiftReg .srl .h s

/-- `SRL L` (bytes CB 3D; R369). -/
def execSRL_L (s : State) : Result := shiftReg .srl .l s

/-- `SRL [HL]` (bytes CB 3E; R370). -/
def execSRL_mHL (s : State) : Result := shiftMem .srl s

/-- `SRL A` (bytes CB 3F; R369). -/
def execSRL_A (s : State) : Result := shiftReg .srl .a s

end Sys2Proof.Machine
end

