-- ==== Sys2Proof/Machine/System.lean ====
section
/-! DEFINITION. The system instructions (46_system.md): NOP, HALT, STOP, EI, DI, the 0xCB prefix and the
eleven unassigned bytes. -/

namespace Sys2Proof.Machine

/-! ### Shared operations -/

/-- HALT (R451): with IME = 0 and an interrupt pending the core does not halt, and with `HALT_BUG` the latch
is set; otherwise it halts. -/
def haltCore (s : State) : Result :=
  done 4
    (if !s.ime && s.hasPending then
      if s.haltBugMode then { s with haltBug := true } else s
    else { s with halted := true })

/-- STOP (R452). -/
def stopCore (s : State) : Result := done 4 { s with stopped := true }

/-- EI (R453): IME itself is set at the end of the next instruction (30_encoding.md R110). -/
def enableInterrupts (s : State) : Result := done 4 { s with eiPending := true }

/-- DI (R454): IME is cleared at once. -/
def disableInterrupts (s : State) : Result := done 4 { s with ime := false }

/-- `desc <- EXT[s]; desc.routine(s)` (R455): the routine and the cost are the extended instruction's, by the
fields of the sub-opcode (30_encoding.md R114). -/
def runExtended (sub : Byte) (s : State) : Result :=
  match fieldX sub, r8Field (fieldZ sub) with
  | 0, .reg r => shiftReg (shiftField (fieldY sub)) r s
  | 0, .memHl => shiftMem (shiftField (fieldY sub)) s
  | 1, .reg r => testBitReg (indexField (fieldY sub)) r s
  | 1, .memHl => testBitMem (indexField (fieldY sub)) s
  | 2, .reg r => clearBitReg (indexField (fieldY sub)) r s
  | 2, .memHl => clearBitMem (indexField (fieldY sub)) s
  | _, .reg r => setBitReg (indexField (fieldY sub)) r s
  | _, .memHl => setBitMem (indexField (fieldY sub)) s

/-! ### One meaning per row of the table -/

/-- `NOP` (byte 00; R450). -/
def execNOP (s : State) : Result := done 4 s

/-- `STOP` (bytes 10 n; R452). -/
def execSTOP (_n : Byte) (s : State) : Result := stopCore s

/-- `HALT` (byte 76; R451). -/
def execHALT (s : State) : Result := haltCore s

/-- `PREFIX CB` (bytes CB s; R455). -/
def execPREFIX_CB (sub : Byte) (s : State) : Result := runExtended sub s

/-- `(unassigned)` (byte D3; R456). -/
def execUNASSIGNED_D3 (s : State) : Result := .next (s.raiseInvalidOpcode 0xD3)

/-- `(unassigned)` (byte DB; R456). -/
def execUNASSIGNED_DB (s : State) : Result := .next (s.raiseInvalidOpcode 0xDB)

/-- `(unassigned)` (byte DD; R456). -/
def execUNASSIGNED_DD (s : State) : Result := .next (s.raiseInvalidOpcode 0xDD)

/-- `(unassigned)` (byte E3; R456). -/
def execUNASSIGNED_E3 (s : State) : Result := .next (s.raiseInvalidOpcode 0xE3)

/-- `(unassigned)` (byte E4; R456). -/
def execUNASSIGNED_E4 (s : State) : Result := .next (s.raiseInvalidOpcode 0xE4)

/-- `(unassigned)` (byte EB; R456). -/
def execUNASSIGNED_EB (s : State) : Result := .next (s.raiseInvalidOpcode 0xEB)

/-- `(unassigned)` (byte EC; R456). -/
def execUNASSIGNED_EC (s : State) : Result := .next (s.raiseInvalidOpcode 0xEC)

/-- `(unassigned)` (byte ED; R456). -/
def execUNASSIGNED_ED (s : State) : Result := .next (s.raiseInvalidOpcode 0xED)

/-- `DI` (byte F3; R454). -/
def execDI (s : State) : Result := disableInterrupts s

/-- `(unassigned)` (byte F4; R456). -/
def execUNASSIGNED_F4 (s : State) : Result := .next (s.raiseInvalidOpcode 0xF4)

/-- `EI` (byte FB; R453). -/
def execEI (s : State) : Result := enableInterrupts s

/-- `(unassigned)` (byte FC; R456). -/
def execUNASSIGNED_FC (s : State) : Result := .next (s.raiseInvalidOpcode 0xFC)

/-- `(unassigned)` (byte FD; R456). -/
def execUNASSIGNED_FD (s : State) : Result := .next (s.raiseInvalidOpcode 0xFD)

end Sys2Proof.Machine
end

