-- ==== Sys2Proof/Machine/Dispatch.lean ====
section
/-! DEFINITION. The dispatch: one arm per constructor of Instr, each one direct call of a meaning. `exec` is the
routine of a descriptor (30_encoding.md R110): it runs with PC = PCnext, and charges the row's cycles. -/

namespace Sys2Proof.Machine

def exec (i : Instr) (s : State) : Host.Outcome State Fault Refusal :=
  match i with
  | .nop => Sys2Proof.Machine.execNOP s
  | .ld_bc_nn nn => Sys2Proof.Machine.execLD_BC_nn nn s
  | .ld_mbc_a => Sys2Proof.Machine.execLD_mBC_A s
  | .inc_bc => Sys2Proof.Machine.execINC_BC s
  | .inc_b => Sys2Proof.Machine.execINC_B s
  | .dec_b => Sys2Proof.Machine.execDEC_B s
  | .ld_b_n n => Sys2Proof.Machine.execLD_B_n n s
  | .rlca => Sys2Proof.Machine.execRLCA s
  | .ld_mnn_sp nn => Sys2Proof.Machine.execLD_mnn_SP nn s
  | .add_hl_bc => Sys2Proof.Machine.execADD_HL_BC s
  | .ld_a_mbc => Sys2Proof.Machine.execLD_A_mBC s
  | .dec_bc => Sys2Proof.Machine.execDEC_BC s
  | .inc_c => Sys2Proof.Machine.execINC_C s
  | .dec_c => Sys2Proof.Machine.execDEC_C s
  | .ld_c_n n => Sys2Proof.Machine.execLD_C_n n s
  | .rrca => Sys2Proof.Machine.execRRCA s
  | .stop n => Sys2Proof.Machine.execSTOP n s
  | .ld_de_nn nn => Sys2Proof.Machine.execLD_DE_nn nn s
  | .ld_mde_a => Sys2Proof.Machine.execLD_mDE_A s
  | .inc_de => Sys2Proof.Machine.execINC_DE s
  | .inc_d => Sys2Proof.Machine.execINC_D s
  | .dec_d => Sys2Proof.Machine.execDEC_D s
  | .ld_d_n n => Sys2Proof.Machine.execLD_D_n n s
  | .rla => Sys2Proof.Machine.execRLA s
  | .jr_e8 e => Sys2Proof.Machine.execJR_e8 e s
  | .add_hl_de => Sys2Proof.Machine.execADD_HL_DE s
  | .ld_a_mde => Sys2Proof.Machine.execLD_A_mDE s
  | .dec_de => Sys2Proof.Machine.execDEC_DE s
  | .inc_e => Sys2Proof.Machine.execINC_E s
  | .dec_e => Sys2Proof.Machine.execDEC_E s
  | .ld_e_n n => Sys2Proof.Machine.execLD_E_n n s
  | .rra => Sys2Proof.Machine.execRRA s
  | .jr_nz_e8 e => Sys2Proof.Machine.execJR_NZ_e8 e s
  | .ld_hl_nn nn => Sys2Proof.Machine.execLD_HL_nn nn s
  | .ld_mhli_a => Sys2Proof.Machine.execLD_mHLI_A s
  | .inc_hl => Sys2Proof.Machine.execINC_HL s
  | .inc_h => Sys2Proof.Machine.execINC_H s
  | .dec_h => Sys2Proof.Machine.execDEC_H s
  | .ld_h_n n => Sys2Proof.Machine.execLD_H_n n s
  | .daa => Sys2Proof.Machine.execDAA s
  | .jr_z_e8 e => Sys2Proof.Machine.execJR_Z_e8 e s
  | .add_hl_hl => Sys2Proof.Machine.execADD_HL_HL s
  | .ld_a_mhli => Sys2Proof.Machine.execLD_A_mHLI s
  | .dec_hl => Sys2Proof.Machine.execDEC_HL s
  | .inc_l => Sys2Proof.Machine.execINC_L s
  | .dec_l => Sys2Proof.Machine.execDEC_L s
  | .ld_l_n n => Sys2Proof.Machine.execLD_L_n n s
  | .cpl => Sys2Proof.Machine.execCPL s
  | .jr_nc_e8 e => Sys2Proof.Machine.execJR_NC_e8 e s
  | .ld_sp_nn nn => Sys2Proof.Machine.execLD_SP_nn nn s
  | .ld_mhld_a => Sys2Proof.Machine.execLD_mHLD_A s
  | .inc_sp => Sys2Proof.Machine.execINC_SP s
  | .inc_mhl => Sys2Proof.Machine.execINC_mHL s
  | .dec_mhl => Sys2Proof.Machine.execDEC_mHL s
  | .ld_mhl_n n => Sys2Proof.Machine.execLD_mHL_n n s
  | .scf => Sys2Proof.Machine.execSCF s
  | .jr_c_e8 e => Sys2Proof.Machine.execJR_C_e8 e s
  | .add_hl_sp => Sys2Proof.Machine.execADD_HL_SP s
  | .ld_a_mhld => Sys2Proof.Machine.execLD_A_mHLD s
  | .dec_sp => Sys2Proof.Machine.execDEC_SP s
  | .inc_a => Sys2Proof.Machine.execINC_A s
  | .dec_a => Sys2Proof.Machine.execDEC_A s
  | .ld_a_n n => Sys2Proof.Machine.execLD_A_n n s
  | .ccf => Sys2Proof.Machine.execCCF s
  | .ld_b_b => Sys2Proof.Machine.execLD_B_B s
  | .ld_b_c => Sys2Proof.Machine.execLD_B_C s
  | .ld_b_d => Sys2Proof.Machine.execLD_B_D s
  | .ld_b_e => Sys2Proof.Machine.execLD_B_E s
  | .ld_b_h => Sys2Proof.Machine.execLD_B_H s
  | .ld_b_l => Sys2Proof.Machine.execLD_B_L s
  | .ld_b_mhl => Sys2Proof.Machine.execLD_B_mHL s
  | .ld_b_a => Sys2Proof.Machine.execLD_B_A s
  | .ld_c_b => Sys2Proof.Machine.execLD_C_B s
  | .ld_c_c => Sys2Proof.Machine.execLD_C_C s
  | .ld_c_d => Sys2Proof.Machine.execLD_C_D s
  | .ld_c_e => Sys2Proof.Machine.execLD_C_E s
  | .ld_c_h => Sys2Proof.Machine.execLD_C_H s
  | .ld_c_l => Sys2Proof.Machine.execLD_C_L s
  | .ld_c_mhl => Sys2Proof.Machine.execLD_C_mHL s
  | .ld_c_a => Sys2Proof.Machine.execLD_C_A s
  | .ld_d_b => Sys2Proof.Machine.execLD_D_B s
  | .ld_d_c => Sys2Proof.Machine.execLD_D_C s
  | .ld_d_d => Sys2Proof.Machine.execLD_D_D s
  | .ld_d_e => Sys2Proof.Machine.execLD_D_E s
  | .ld_d_h => Sys2Proof.Machine.execLD_D_H s
  | .ld_d_l => Sys2Proof.Machine.execLD_D_L s
  | .ld_d_mhl => Sys2Proof.Machine.execLD_D_mHL s
  | .ld_d_a => Sys2Proof.Machine.execLD_D_A s
  | .ld_e_b => Sys2Proof.Machine.execLD_E_B s
  | .ld_e_c => Sys2Proof.Machine.execLD_E_C s
  | .ld_e_d => Sys2Proof.Machine.execLD_E_D s
  | .ld_e_e => Sys2Proof.Machine.execLD_E_E s
  | .ld_e_h => Sys2Proof.Machine.execLD_E_H s
  | .ld_e_l => Sys2Proof.Machine.execLD_E_L s
  | .ld_e_mhl => Sys2Proof.Machine.execLD_E_mHL s
  | .ld_e_a => Sys2Proof.Machine.execLD_E_A s
  | .ld_h_b => Sys2Proof.Machine.execLD_H_B s
  | .ld_h_c => Sys2Proof.Machine.execLD_H_C s
  | .ld_h_d => Sys2Proof.Machine.execLD_H_D s
  | .ld_h_e => Sys2Proof.Machine.execLD_H_E s
  | .ld_h_h => Sys2Proof.Machine.execLD_H_H s
  | .ld_h_l => Sys2Proof.Machine.execLD_H_L s
  | .ld_h_mhl => Sys2Proof.Machine.execLD_H_mHL s
  | .ld_h_a => Sys2Proof.Machine.execLD_H_A s
  | .ld_l_b => Sys2Proof.Machine.execLD_L_B s
  | .ld_l_c => Sys2Proof.Machine.execLD_L_C s
  | .ld_l_d => Sys2Proof.Machine.execLD_L_D s
  | .ld_l_e => Sys2Proof.Machine.execLD_L_E s
  | .ld_l_h => Sys2Proof.Machine.execLD_L_H s
  | .ld_l_l => Sys2Proof.Machine.execLD_L_L s
  | .ld_l_mhl => Sys2Proof.Machine.execLD_L_mHL s
  | .ld_l_a => Sys2Proof.Machine.execLD_L_A s
  | .ld_mhl_b => Sys2Proof.Machine.execLD_mHL_B s
  | .ld_mhl_c => Sys2Proof.Machine.execLD_mHL_C s
  | .ld_mhl_d => Sys2Proof.Machine.execLD_mHL_D s
  | .ld_mhl_e => Sys2Proof.Machine.execLD_mHL_E s
  | .ld_mhl_h => Sys2Proof.Machine.execLD_mHL_H s
  | .ld_mhl_l => Sys2Proof.Machine.execLD_mHL_L s
  | .halt => Sys2Proof.Machine.execHALT s
  | .ld_mhl_a => Sys2Proof.Machine.execLD_mHL_A s
  | .ld_a_b => Sys2Proof.Machine.execLD_A_B s
  | .ld_a_c => Sys2Proof.Machine.execLD_A_C s
  | .ld_a_d => Sys2Proof.Machine.execLD_A_D s
  | .ld_a_e => Sys2Proof.Machine.execLD_A_E s
  | .ld_a_h => Sys2Proof.Machine.execLD_A_H s
  | .ld_a_l => Sys2Proof.Machine.execLD_A_L s
  | .ld_a_mhl => Sys2Proof.Machine.execLD_A_mHL s
  | .ld_a_a => Sys2Proof.Machine.execLD_A_A s
  | .add_a_b => Sys2Proof.Machine.execADD_A_B s
  | .add_a_c => Sys2Proof.Machine.execADD_A_C s
  | .add_a_d => Sys2Proof.Machine.execADD_A_D s
  | .add_a_e => Sys2Proof.Machine.execADD_A_E s
  | .add_a_h => Sys2Proof.Machine.execADD_A_H s
  | .add_a_l => Sys2Proof.Machine.execADD_A_L s
  | .add_a_mhl => Sys2Proof.Machine.execADD_A_mHL s
  | .add_a_a => Sys2Proof.Machine.execADD_A_A s
  | .adc_a_b => Sys2Proof.Machine.execADC_A_B s
  | .adc_a_c => Sys2Proof.Machine.execADC_A_C s
  | .adc_a_d => Sys2Proof.Machine.execADC_A_D s
  | .adc_a_e => Sys2Proof.Machine.execADC_A_E s
  | .adc_a_h => Sys2Proof.Machine.execADC_A_H s
  | .adc_a_l => Sys2Proof.Machine.execADC_A_L s
  | .adc_a_mhl => Sys2Proof.Machine.execADC_A_mHL s
  | .adc_a_a => Sys2Proof.Machine.execADC_A_A s
  | .sub_b => Sys2Proof.Machine.execSUB_B s
  | .sub_c => Sys2Proof.Machine.execSUB_C s
  | .sub_d => Sys2Proof.Machine.execSUB_D s
  | .sub_e => Sys2Proof.Machine.execSUB_E s
  | .sub_h => Sys2Proof.Machine.execSUB_H s
  | .sub_l => Sys2Proof.Machine.execSUB_L s
  | .sub_mhl => Sys2Proof.Machine.execSUB_mHL s
  | .sub_a => Sys2Proof.Machine.execSUB_A s
  | .sbc_a_b => Sys2Proof.Machine.execSBC_A_B s
  | .sbc_a_c => Sys2Proof.Machine.execSBC_A_C s
  | .sbc_a_d => Sys2Proof.Machine.execSBC_A_D s
  | .sbc_a_e => Sys2Proof.Machine.execSBC_A_E s
  | .sbc_a_h => Sys2Proof.Machine.execSBC_A_H s
  | .sbc_a_l => Sys2Proof.Machine.execSBC_A_L s
  | .sbc_a_mhl => Sys2Proof.Machine.execSBC_A_mHL s
  | .sbc_a_a => Sys2Proof.Machine.execSBC_A_A s
  | .and_b => Sys2Proof.Machine.execAND_B s
  | .and_c => Sys2Proof.Machine.execAND_C s
  | .and_d => Sys2Proof.Machine.execAND_D s
  | .and_e => Sys2Proof.Machine.execAND_E s
  | .and_h => Sys2Proof.Machine.execAND_H s
  | .and_l => Sys2Proof.Machine.execAND_L s
  | .and_mhl => Sys2Proof.Machine.execAND_mHL s
  | .and_a => Sys2Proof.Machine.execAND_A s
  | .xor_b => Sys2Proof.Machine.execXOR_B s
  | .xor_c => Sys2Proof.Machine.execXOR_C s
  | .xor_d => Sys2Proof.Machine.execXOR_D s
  | .xor_e => Sys2Proof.Machine.execXOR_E s
  | .xor_h => Sys2Proof.Machine.execXOR_H s
  | .xor_l => Sys2Proof.Machine.execXOR_L s
  | .xor_mhl => Sys2Proof.Machine.execXOR_mHL s
  | .xor_a => Sys2Proof.Machine.execXOR_A s
  | .or_b => Sys2Proof.Machine.execOR_B s
  | .or_c => Sys2Proof.Machine.execOR_C s
  | .or_d => Sys2Proof.Machine.execOR_D s
  | .or_e => Sys2Proof.Machine.execOR_E s
  | .or_h => Sys2Proof.Machine.execOR_H s
  | .or_l => Sys2Proof.Machine.execOR_L s
  | .or_mhl => Sys2Proof.Machine.execOR_mHL s
  | .or_a => Sys2Proof.Machine.execOR_A s
  | .cp_b => Sys2Proof.Machine.execCP_B s
  | .cp_c => Sys2Proof.Machine.execCP_C s
  | .cp_d => Sys2Proof.Machine.execCP_D s
  | .cp_e => Sys2Proof.Machine.execCP_E s
  | .cp_h => Sys2Proof.Machine.execCP_H s
  | .cp_l => Sys2Proof.Machine.execCP_L s
  | .cp_mhl => Sys2Proof.Machine.execCP_mHL s
  | .cp_a => Sys2Proof.Machine.execCP_A s
  | .ret_nz => Sys2Proof.Machine.execRET_NZ s
  | .pop_bc => Sys2Proof.Machine.execPOP_BC s
  | .jp_nz_nn nn => Sys2Proof.Machine.execJP_NZ_nn nn s
  | .jp_nn nn => Sys2Proof.Machine.execJP_nn nn s
  | .call_nz_nn nn => Sys2Proof.Machine.execCALL_NZ_nn nn s
  | .push_bc => Sys2Proof.Machine.execPUSH_BC s
  | .add_a_n n => Sys2Proof.Machine.execADD_A_n n s
  | .rst_0x00 => Sys2Proof.Machine.execRST_0x00 s
  | .ret_z => Sys2Proof.Machine.execRET_Z s
  | .ret => Sys2Proof.Machine.execRET s
  | .jp_z_nn nn => Sys2Proof.Machine.execJP_Z_nn nn s
  | .prefix_cb sub => Sys2Proof.Machine.execPREFIX_CB sub s
  | .call_z_nn nn => Sys2Proof.Machine.execCALL_Z_nn nn s
  | .call_nn nn => Sys2Proof.Machine.execCALL_nn nn s
  | .adc_a_n n => Sys2Proof.Machine.execADC_A_n n s
  | .rst_0x08 => Sys2Proof.Machine.execRST_0x08 s
  | .ret_nc => Sys2Proof.Machine.execRET_NC s
  | .pop_de => Sys2Proof.Machine.execPOP_DE s
  | .jp_nc_nn nn => Sys2Proof.Machine.execJP_NC_nn nn s
  | .unassigned_d3 => Sys2Proof.Machine.execUNASSIGNED_D3 s
  | .call_nc_nn nn => Sys2Proof.Machine.execCALL_NC_nn nn s
  | .push_de => Sys2Proof.Machine.execPUSH_DE s
  | .sub_n n => Sys2Proof.Machine.execSUB_n n s
  | .rst_0x10 => Sys2Proof.Machine.execRST_0x10 s
  | .ret_c => Sys2Proof.Machine.execRET_C s
  | .reti => Sys2Proof.Machine.execRETI s
  | .jp_c_nn nn => Sys2Proof.Machine.execJP_C_nn nn s
  | .unassigned_db => Sys2Proof.Machine.execUNASSIGNED_DB s
  | .call_c_nn nn => Sys2Proof.Machine.execCALL_C_nn nn s
  | .unassigned_dd => Sys2Proof.Machine.execUNASSIGNED_DD s
  | .sbc_a_n n => Sys2Proof.Machine.execSBC_A_n n s
  | .rst_0x18 => Sys2Proof.Machine.execRST_0x18 s
  | .ldh_mn_a n => Sys2Proof.Machine.execLDH_mn_A n s
  | .pop_hl => Sys2Proof.Machine.execPOP_HL s
  | .ldh_mc_a => Sys2Proof.Machine.execLDH_mC_A s
  | .unassigned_e3 => Sys2Proof.Machine.execUNASSIGNED_E3 s
  | .unassigned_e4 => Sys2Proof.Machine.execUNASSIGNED_E4 s
  | .push_hl => Sys2Proof.Machine.execPUSH_HL s
  | .and_n n => Sys2Proof.Machine.execAND_n n s
  | .rst_0x20 => Sys2Proof.Machine.execRST_0x20 s
  | .add_sp_e8 e => Sys2Proof.Machine.execADD_SP_e8 e s
  | .jp_hl => Sys2Proof.Machine.execJP_HL s
  | .ld_mnn_a nn => Sys2Proof.Machine.execLD_mnn_A nn s
  | .unassigned_eb => Sys2Proof.Machine.execUNASSIGNED_EB s
  | .unassigned_ec => Sys2Proof.Machine.execUNASSIGNED_EC s
  | .unassigned_ed => Sys2Proof.Machine.execUNASSIGNED_ED s
  | .xor_n n => Sys2Proof.Machine.execXOR_n n s
  | .rst_0x28 => Sys2Proof.Machine.execRST_0x28 s
  | .ldh_a_mn n => Sys2Proof.Machine.execLDH_A_mn n s
  | .pop_af => Sys2Proof.Machine.execPOP_AF s
  | .ldh_a_mc => Sys2Proof.Machine.execLDH_A_mC s
  | .di => Sys2Proof.Machine.execDI s
  | .unassigned_f4 => Sys2Proof.Machine.execUNASSIGNED_F4 s
  | .push_af => Sys2Proof.Machine.execPUSH_AF s
  | .or_n n => Sys2Proof.Machine.execOR_n n s
  | .rst_0x30 => Sys2Proof.Machine.execRST_0x30 s
  | .ld_hl_sp_e8 e => Sys2Proof.Machine.execLD_HL_SP_e8 e s
  | .ld_sp_hl => Sys2Proof.Machine.execLD_SP_HL s
  | .ld_a_mnn nn => Sys2Proof.Machine.execLD_A_mnn nn s
  | .ei => Sys2Proof.Machine.execEI s
  | .unassigned_fc => Sys2Proof.Machine.execUNASSIGNED_FC s
  | .unassigned_fd => Sys2Proof.Machine.execUNASSIGNED_FD s
  | .cp_n n => Sys2Proof.Machine.execCP_n n s
  | .rst_0x38 => Sys2Proof.Machine.execRST_0x38 s
  | .rlc_b => Sys2Proof.Machine.execRLC_B s
  | .rlc_c => Sys2Proof.Machine.execRLC_C s
  | .rlc_d => Sys2Proof.Machine.execRLC_D s
  | .rlc_e => Sys2Proof.Machine.execRLC_E s
  | .rlc_h => Sys2Proof.Machine.execRLC_H s
  | .rlc_l => Sys2Proof.Machine.execRLC_L s
  | .rlc_mhl => Sys2Proof.Machine.execRLC_mHL s
  | .rlc_a => Sys2Proof.Machine.execRLC_A s
  | .rrc_b => Sys2Proof.Machine.execRRC_B s
  | .rrc_c => Sys2Proof.Machine.execRRC_C s
  | .rrc_d => Sys2Proof.Machine.execRRC_D s
  | .rrc_e => Sys2Proof.Machine.execRRC_E s
  | .rrc_h => Sys2Proof.Machine.execRRC_H s
  | .rrc_l => Sys2Proof.Machine.execRRC_L s
  | .rrc_mhl => Sys2Proof.Machine.execRRC_mHL s
  | .rrc_a => Sys2Proof.Machine.execRRC_A s
  | .rl_b => Sys2Proof.Machine.execRL_B s
  | .rl_c => Sys2Proof.Machine.execRL_C s
  | .rl_d => Sys2Proof.Machine.execRL_D s
  | .rl_e => Sys2Proof.Machine.execRL_E s
  | .rl_h => Sys2Proof.Machine.execRL_H s
  | .rl_l => Sys2Proof.Machine.execRL_L s
  | .rl_mhl => Sys2Proof.Machine.execRL_mHL s
  | .rl_a => Sys2Proof.Machine.execRL_A s
  | .rr_b => Sys2Proof.Machine.execRR_B s
  | .rr_c => Sys2Proof.Machine.execRR_C s
  | .rr_d => Sys2Proof.Machine.execRR_D s
  | .rr_e => Sys2Proof.Machine.execRR_E s
  | .rr_h => Sys2Proof.Machine.execRR_H s
  | .rr_l => Sys2Proof.Machine.execRR_L s
  | .rr_mhl => Sys2Proof.Machine.execRR_mHL s
  | .rr_a => Sys2Proof.Machine.execRR_A s
  | .sla_b => Sys2Proof.Machine.execSLA_B s
  | .sla_c => Sys2Proof.Machine.execSLA_C s
  | .sla_d => Sys2Proof.Machine.execSLA_D s
  | .sla_e => Sys2Proof.Machine.execSLA_E s
  | .sla_h => Sys2Proof.Machine.execSLA_H s
  | .sla_l => Sys2Proof.Machine.execSLA_L s
  | .sla_mhl => Sys2Proof.Machine.execSLA_mHL s
  | .sla_a => Sys2Proof.Machine.execSLA_A s
  | .sra_b => Sys2Proof.Machine.execSRA_B s
  | .sra_c => Sys2Proof.Machine.execSRA_C s
  | .sra_d => Sys2Proof.Machine.execSRA_D s
  | .sra_e => Sys2Proof.Machine.execSRA_E s
  | .sra_h => Sys2Proof.Machine.execSRA_H s
  | .sra_l => Sys2Proof.Machine.execSRA_L s
  | .sra_mhl => Sys2Proof.Machine.execSRA_mHL s
  | .sra_a => Sys2Proof.Machine.execSRA_A s
  | .swap_b => Sys2Proof.Machine.execSWAP_B s
  | .swap_c => Sys2Proof.Machine.execSWAP_C s
  | .swap_d => Sys2Proof.Machine.execSWAP_D s
  | .swap_e => Sys2Proof.Machine.execSWAP_E s
  | .swap_h => Sys2Proof.Machine.execSWAP_H s
  | .swap_l => Sys2Proof.Machine.execSWAP_L s
  | .swap_mhl => Sys2Proof.Machine.execSWAP_mHL s
  | .swap_a => Sys2Proof.Machine.execSWAP_A s
  | .srl_b => Sys2Proof.Machine.execSRL_B s
  | .srl_c => Sys2Proof.Machine.execSRL_C s
  | .srl_d => Sys2Proof.Machine.execSRL_D s
  | .srl_e => Sys2Proof.Machine.execSRL_E s
  | .srl_h => Sys2Proof.Machine.execSRL_H s
  | .srl_l => Sys2Proof.Machine.execSRL_L s
  | .srl_mhl => Sys2Proof.Machine.execSRL_mHL s
  | .srl_a => Sys2Proof.Machine.execSRL_A s
  | .bit_0_b => Sys2Proof.Machine.execBIT_0_B s
  | .bit_0_c => Sys2Proof.Machine.execBIT_0_C s
  | .bit_0_d => Sys2Proof.Machine.execBIT_0_D s
  | .bit_0_e => Sys2Proof.Machine.execBIT_0_E s
  | .bit_0_h => Sys2Proof.Machine.execBIT_0_H s
  | .bit_0_l => Sys2Proof.Machine.execBIT_0_L s
  | .bit_0_mhl => Sys2Proof.Machine.execBIT_0_mHL s
  | .bit_0_a => Sys2Proof.Machine.execBIT_0_A s
  | .bit_1_b => Sys2Proof.Machine.execBIT_1_B s
  | .bit_1_c => Sys2Proof.Machine.execBIT_1_C s
  | .bit_1_d => Sys2Proof.Machine.execBIT_1_D s
  | .bit_1_e => Sys2Proof.Machine.execBIT_1_E s
  | .bit_1_h => Sys2Proof.Machine.execBIT_1_H s
  | .bit_1_l => Sys2Proof.Machine.execBIT_1_L s
  | .bit_1_mhl => Sys2Proof.Machine.execBIT_1_mHL s
  | .bit_1_a => Sys2Proof.Machine.execBIT_1_A s
  | .bit_2_b => Sys2Proof.Machine.execBIT_2_B s
  | .bit_2_c => Sys2Proof.Machine.execBIT_2_C s
  | .bit_2_d => Sys2Proof.Machine.execBIT_2_D s
  | .bit_2_e => Sys2Proof.Machine.execBIT_2_E s
  | .bit_2_h => Sys2Proof.Machine.execBIT_2_H s
  | .bit_2_l => Sys2Proof.Machine.execBIT_2_L s
  | .bit_2_mhl => Sys2Proof.Machine.execBIT_2_mHL s
  | .bit_2_a => Sys2Proof.Machine.execBIT_2_A s
  | .bit_3_b => Sys2Proof.Machine.execBIT_3_B s
  | .bit_3_c => Sys2Proof.Machine.execBIT_3_C s
  | .bit_3_d => Sys2Proof.Machine.execBIT_3_D s
  | .bit_3_e => Sys2Proof.Machine.execBIT_3_E s
  | .bit_3_h => Sys2Proof.Machine.execBIT_3_H s
  | .bit_3_l => Sys2Proof.Machine.execBIT_3_L s
  | .bit_3_mhl => Sys2Proof.Machine.execBIT_3_mHL s
  | .bit_3_a => Sys2Proof.Machine.execBIT_3_A s
  | .bit_4_b => Sys2Proof.Machine.execBIT_4_B s
  | .bit_4_c => Sys2Proof.Machine.execBIT_4_C s
  | .bit_4_d => Sys2Proof.Machine.execBIT_4_D s
  | .bit_4_e => Sys2Proof.Machine.execBIT_4_E s
  | .bit_4_h => Sys2Proof.Machine.execBIT_4_H s
  | .bit_4_l => Sys2Proof.Machine.execBIT_4_L s
  | .bit_4_mhl => Sys2Proof.Machine.execBIT_4_mHL s
  | .bit_4_a => Sys2Proof.Machine.execBIT_4_A s
  | .bit_5_b => Sys2Proof.Machine.execBIT_5_B s
  | .bit_5_c => Sys2Proof.Machine.execBIT_5_C s
  | .bit_5_d => Sys2Proof.Machine.execBIT_5_D s
  | .bit_5_e => Sys2Proof.Machine.execBIT_5_E s
  | .bit_5_h => Sys2Proof.Machine.execBIT_5_H s
  | .bit_5_l => Sys2Proof.Machine.execBIT_5_L s
  | .bit_5_mhl => Sys2Proof.Machine.execBIT_5_mHL s
  | .bit_5_a => Sys2Proof.Machine.execBIT_5_A s
  | .bit_6_b => Sys2Proof.Machine.execBIT_6_B s
  | .bit_6_c => Sys2Proof.Machine.execBIT_6_C s
  | .bit_6_d => Sys2Proof.Machine.execBIT_6_D s
  | .bit_6_e => Sys2Proof.Machine.execBIT_6_E s
  | .bit_6_h => Sys2Proof.Machine.execBIT_6_H s
  | .bit_6_l => Sys2Proof.Machine.execBIT_6_L s
  | .bit_6_mhl => Sys2Proof.Machine.execBIT_6_mHL s
  | .bit_6_a => Sys2Proof.Machine.execBIT_6_A s
  | .bit_7_b => Sys2Proof.Machine.execBIT_7_B s
  | .bit_7_c => Sys2Proof.Machine.execBIT_7_C s
  | .bit_7_d => Sys2Proof.Machine.execBIT_7_D s
  | .bit_7_e => Sys2Proof.Machine.execBIT_7_E s
  | .bit_7_h => Sys2Proof.Machine.execBIT_7_H s
  | .bit_7_l => Sys2Proof.Machine.execBIT_7_L s
  | .bit_7_mhl => Sys2Proof.Machine.execBIT_7_mHL s
  | .bit_7_a => Sys2Proof.Machine.execBIT_7_A s
  | .res_0_b => Sys2Proof.Machine.execRES_0_B s
  | .res_0_c => Sys2Proof.Machine.execRES_0_C s
  | .res_0_d => Sys2Proof.Machine.execRES_0_D s
  | .res_0_e => Sys2Proof.Machine.execRES_0_E s
  | .res_0_h => Sys2Proof.Machine.execRES_0_H s
  | .res_0_l => Sys2Proof.Machine.execRES_0_L s
  | .res_0_mhl => Sys2Proof.Machine.execRES_0_mHL s
  | .res_0_a => Sys2Proof.Machine.execRES_0_A s
  | .res_1_b => Sys2Proof.Machine.execRES_1_B s
  | .res_1_c => Sys2Proof.Machine.execRES_1_C s
  | .res_1_d => Sys2Proof.Machine.execRES_1_D s
  | .res_1_e => Sys2Proof.Machine.execRES_1_E s
  | .res_1_h => Sys2Proof.Machine.execRES_1_H s
  | .res_1_l => Sys2Proof.Machine.execRES_1_L s
  | .res_1_mhl => Sys2Proof.Machine.execRES_1_mHL s
  | .res_1_a => Sys2Proof.Machine.execRES_1_A s
  | .res_2_b => Sys2Proof.Machine.execRES_2_B s
  | .res_2_c => Sys2Proof.Machine.execRES_2_C s
  | .res_2_d => Sys2Proof.Machine.execRES_2_D s
  | .res_2_e => Sys2Proof.Machine.execRES_2_E s
  | .res_2_h => Sys2Proof.Machine.execRES_2_H s
  | .res_2_l => Sys2Proof.Machine.execRES_2_L s
  | .res_2_mhl => Sys2Proof.Machine.execRES_2_mHL s
  | .res_2_a => Sys2Proof.Machine.execRES_2_A s
  | .res_3_b => Sys2Proof.Machine.execRES_3_B s
  | .res_3_c => Sys2Proof.Machine.execRES_3_C s
  | .res_3_d => Sys2Proof.Machine.execRES_3_D s
  | .res_3_e => Sys2Proof.Machine.execRES_3_E s
  | .res_3_h => Sys2Proof.Machine.execRES_3_H s
  | .res_3_l => Sys2Proof.Machine.execRES_3_L s
  | .res_3_mhl => Sys2Proof.Machine.execRES_3_mHL s
  | .res_3_a => Sys2Proof.Machine.execRES_3_A s
  | .res_4_b => Sys2Proof.Machine.execRES_4_B s
  | .res_4_c => Sys2Proof.Machine.execRES_4_C s
  | .res_4_d => Sys2Proof.Machine.execRES_4_D s
  | .res_4_e => Sys2Proof.Machine.execRES_4_E s
  | .res_4_h => Sys2Proof.Machine.execRES_4_H s
  | .res_4_l => Sys2Proof.Machine.execRES_4_L s
  | .res_4_mhl => Sys2Proof.Machine.execRES_4_mHL s
  | .res_4_a => Sys2Proof.Machine.execRES_4_A s
  | .res_5_b => Sys2Proof.Machine.execRES_5_B s
  | .res_5_c => Sys2Proof.Machine.execRES_5_C s
  | .res_5_d => Sys2Proof.Machine.execRES_5_D s
  | .res_5_e => Sys2Proof.Machine.execRES_5_E s
  | .res_5_h => Sys2Proof.Machine.execRES_5_H s
  | .res_5_l => Sys2Proof.Machine.execRES_5_L s
  | .res_5_mhl => Sys2Proof.Machine.execRES_5_mHL s
  | .res_5_a => Sys2Proof.Machine.execRES_5_A s
  | .res_6_b => Sys2Proof.Machine.execRES_6_B s
  | .res_6_c => Sys2Proof.Machine.execRES_6_C s
  | .res_6_d => Sys2Proof.Machine.execRES_6_D s
  | .res_6_e => Sys2Proof.Machine.execRES_6_E s
  | .res_6_h => Sys2Proof.Machine.execRES_6_H s
  | .res_6_l => Sys2Proof.Machine.execRES_6_L s
  | .res_6_mhl => Sys2Proof.Machine.execRES_6_mHL s
  | .res_6_a => Sys2Proof.Machine.execRES_6_A s
  | .res_7_b => Sys2Proof.Machine.execRES_7_B s
  | .res_7_c => Sys2Proof.Machine.execRES_7_C s
  | .res_7_d => Sys2Proof.Machine.execRES_7_D s
  | .res_7_e => Sys2Proof.Machine.execRES_7_E s
  | .res_7_h => Sys2Proof.Machine.execRES_7_H s
  | .res_7_l => Sys2Proof.Machine.execRES_7_L s
  | .res_7_mhl => Sys2Proof.Machine.execRES_7_mHL s
  | .res_7_a => Sys2Proof.Machine.execRES_7_A s
  | .set_0_b => Sys2Proof.Machine.execSET_0_B s
  | .set_0_c => Sys2Proof.Machine.execSET_0_C s
  | .set_0_d => Sys2Proof.Machine.execSET_0_D s
  | .set_0_e => Sys2Proof.Machine.execSET_0_E s
  | .set_0_h => Sys2Proof.Machine.execSET_0_H s
  | .set_0_l => Sys2Proof.Machine.execSET_0_L s
  | .set_0_mhl => Sys2Proof.Machine.execSET_0_mHL s
  | .set_0_a => Sys2Proof.Machine.execSET_0_A s
  | .set_1_b => Sys2Proof.Machine.execSET_1_B s
  | .set_1_c => Sys2Proof.Machine.execSET_1_C s
  | .set_1_d => Sys2Proof.Machine.execSET_1_D s
  | .set_1_e => Sys2Proof.Machine.execSET_1_E s
  | .set_1_h => Sys2Proof.Machine.execSET_1_H s
  | .set_1_l => Sys2Proof.Machine.execSET_1_L s
  | .set_1_mhl => Sys2Proof.Machine.execSET_1_mHL s
  | .set_1_a => Sys2Proof.Machine.execSET_1_A s
  | .set_2_b => Sys2Proof.Machine.execSET_2_B s
  | .set_2_c => Sys2Proof.Machine.execSET_2_C s
  | .set_2_d => Sys2Proof.Machine.execSET_2_D s
  | .set_2_e => Sys2Proof.Machine.execSET_2_E s
  | .set_2_h => Sys2Proof.Machine.execSET_2_H s
  | .set_2_l => Sys2Proof.Machine.execSET_2_L s
  | .set_2_mhl => Sys2Proof.Machine.execSET_2_mHL s
  | .set_2_a => Sys2Proof.Machine.execSET_2_A s
  | .set_3_b => Sys2Proof.Machine.execSET_3_B s
  | .set_3_c => Sys2Proof.Machine.execSET_3_C s
  | .set_3_d => Sys2Proof.Machine.execSET_3_D s
  | .set_3_e => Sys2Proof.Machine.execSET_3_E s
  | .set_3_h => Sys2Proof.Machine.execSET_3_H s
  | .set_3_l => Sys2Proof.Machine.execSET_3_L s
  | .set_3_mhl => Sys2Proof.Machine.execSET_3_mHL s
  | .set_3_a => Sys2Proof.Machine.execSET_3_A s
  | .set_4_b => Sys2Proof.Machine.execSET_4_B s
  | .set_4_c => Sys2Proof.Machine.execSET_4_C s
  | .set_4_d => Sys2Proof.Machine.execSET_4_D s
  | .set_4_e => Sys2Proof.Machine.execSET_4_E s
  | .set_4_h => Sys2Proof.Machine.execSET_4_H s
  | .set_4_l => Sys2Proof.Machine.execSET_4_L s
  | .set_4_mhl => Sys2Proof.Machine.execSET_4_mHL s
  | .set_4_a => Sys2Proof.Machine.execSET_4_A s
  | .set_5_b => Sys2Proof.Machine.execSET_5_B s
  | .set_5_c => Sys2Proof.Machine.execSET_5_C s
  | .set_5_d => Sys2Proof.Machine.execSET_5_D s
  | .set_5_e => Sys2Proof.Machine.execSET_5_E s
  | .set_5_h => Sys2Proof.Machine.execSET_5_H s
  | .set_5_l => Sys2Proof.Machine.execSET_5_L s
  | .set_5_mhl => Sys2Proof.Machine.execSET_5_mHL s
  | .set_5_a => Sys2Proof.Machine.execSET_5_A s
  | .set_6_b => Sys2Proof.Machine.execSET_6_B s
  | .set_6_c => Sys2Proof.Machine.execSET_6_C s
  | .set_6_d => Sys2Proof.Machine.execSET_6_D s
  | .set_6_e => Sys2Proof.Machine.execSET_6_E s
  | .set_6_h => Sys2Proof.Machine.execSET_6_H s
  | .set_6_l => Sys2Proof.Machine.execSET_6_L s
  | .set_6_mhl => Sys2Proof.Machine.execSET_6_mHL s
  | .set_6_a => Sys2Proof.Machine.execSET_6_A s
  | .set_7_b => Sys2Proof.Machine.execSET_7_B s
  | .set_7_c => Sys2Proof.Machine.execSET_7_C s
  | .set_7_d => Sys2Proof.Machine.execSET_7_D s
  | .set_7_e => Sys2Proof.Machine.execSET_7_E s
  | .set_7_h => Sys2Proof.Machine.execSET_7_H s
  | .set_7_l => Sys2Proof.Machine.execSET_7_L s
  | .set_7_mhl => Sys2Proof.Machine.execSET_7_mHL s
  | .set_7_a => Sys2Proof.Machine.execSET_7_A s

end Sys2Proof.Machine
end

