-- ==== Sys2Proof/Machine/Execute.lean ====
section
/-! DEFINITION. The step (30_encoding.md R109, R110): fetching and decoding at PC, what surrounds a routine,
and the order in which a step tests the machine's state. Machine/Step.lean only calls this file. -/

namespace Sys2Proof.Machine

/-! ### Fetch -/

/-- The address of the byte after the opcode: the opcode's own address while the halt-bug latch is set
(10_state.md R37, 30_encoding.md R110). -/
def State.operandAddress (s : State) : Word := if s.haltBug then s.pc else s.pc + 1

/-- The opcode byte at PC (30_encoding.md R110). -/
def State.opcode (s : State) : Byte := s.read s.pc

/-- The instruction at PC. All its bytes are read before its routine runs (20_memory.md R69); reading the
bytes past its end changes nothing (R66). -/
def State.fetched (s : State) : Instr :=
  decodeFetched s.opcode (s.read s.operandAddress) (s.read (s.operandAddress + 1))

/-- `PCnext`: PC advanced past the whole instruction (30_encoding.md R110). -/
def State.pcNext (s : State) : Word := s.operandAddress + BitVec.ofNat 16 (opLength s.opcode - 1)

/-! ### Around a routine -/

/-- The eleven unassigned bytes (30_encoding.md R115). -/
def isUnassigned (op : Byte) : Bool :=
  [0xD3, 0xDB, 0xDD, 0xE3, 0xE4, 0xEB, 0xEC, 0xED, 0xF4, 0xFC, 0xFD].contains op.toNat

/-- The state a routine starts in: PC at PCnext, `ei_pending` and `halt_bug` consumed. An unassigned byte
changes nothing before its fault (30_encoding.md R110, 46_system.md R456). -/
def State.routineStart (s : State) : State :=
  if isUnassigned s.opcode then s
  else { s with pc := s.pcNext, eiPending := false, haltBug := false }

/-- The delayed enable of EI (30_encoding.md R110): IME is set at the end of the instruction after EI, unless
that instruction is DI (opcode 0xF3). -/
def State.delayedEnable (before after : State) : State :=
  if before.eiPending && before.opcode != 0xF3 then { after with ime := true } else after

/-- What a step answers when it has run a routine: `Faulted(f)` when the routine recorded a fault, else the
state after the delayed enable (30_encoding.md R110). -/
def State.finish (before after : State) : Result :=
  match after.fault with
  | some f => .fault f
  | none => .next (before.delayedEnable after)

/-- `execute()` (30_encoding.md R110). -/
def State.execute (s : State) : Result :=
  match exec s.fetched s.routineStart with
  | .next t => s.finish t
  | .fault f => .fault f
  | .refused r => .refused r

/-! ### The order of a step -/

/-- Whether the step dispatches an interrupt (60_exceptions.md R503). -/
def State.takesInterrupt (s : State) : Bool := s.ime && s.hasPending

/-- A step while `halted = 1` (60_exceptions.md R506). -/
def State.haltedStep (s : State) : State :=
  (if s.hasPending then { s with halted := false } else s).charge 4

/-- `step()` (30_encoding.md R109): a recorded fault first, then STOP, then HALT, then a dispatch, then an
instruction. A core with no cartridge loaded is not stepped (20_memory.md R81, log 1). -/
def State.runStep (s : State) : Result :=
  match s.ramBanks, s.fault with
  | none, _ => .refused .noCartridge
  | some _, some f => .fault f
  | some _, none =>
    if s.stopped then .next (s.charge 4)
    else if s.halted then .next s.haltedStep
    else if s.takesInterrupt then .next (s.dispatch.charge 20)
    else s.execute

/-! ### Placing an instruction where the next step fetches it -/

/-- Store a byte in the cell behind an address, ROM cells included: what loading a cartridge image does to
ROM (20_memory.md R80). -/
def State.poke (s : State) (addr : Word) (v : Byte) : State :=
  match slot s.ramBanks addr with
  | .rom k | .ram k => { s with mem := Memory.set s.mem k v }
  | .absent => s

/-- Store consecutive bytes. -/
def State.pokeBytes (s : State) (addr : Word) (bytes : List Byte) : State :=
  match bytes with
  | [] => s
  | v :: rest => (s.poke addr v).pokeBytes (addr + 1) rest

/-- Whether the three bytes from `addr` on all have a cell behind them. -/
def State.hasCells (s : State) (addr : Word) : Bool :=
  slot s.ramBanks addr != .absent && slot s.ramBanks (addr + 1) != .absent &&
    slot s.ramBanks (addr + 2) != .absent

/-- `s` made ready to run the instruction of the table word `w` on its very next step (log 14): a loaded
cartridge (with no external RAM where none was loaded), running, no latch that changes the fetch, PC moved to
0xC000 where no cell is behind it, the bytes stored at PC, and IME cleared where an interrupt would be
dispatched first. -/
def State.placeFetchWord (s : State) (nbits w : Nat) : State :=
  let ready : State := { s with
    ramBanks := some (s.ramBanks.getD 0), fault := none, stopped := false, halted := false, haltBug := false }
  let at_ : State := if ready.hasCells ready.pc then ready else { ready with pc := 0xC000 }
  let stored := at_.pokeBytes at_.pc (tableBytes nbits w)
  { stored with ime := stored.ime && !stored.hasPending }

end Sys2Proof.Machine
end

