-- ==== Sys2Proof/Machine/Step.lean ====
section
/-! DEFINITION. The machine's one step and the host's way to place an instruction. -/

namespace Sys2Proof.Machine

/-- One step (30_encoding.md R109): one instruction, one interrupt dispatch, or one suspended wait. -/
def step (s : State) : Host.Outcome State Fault Refusal := s.runStep

/-- `s` with the instruction of the table word `w` stored where `step` fetches its next instruction. -/
def State.withFetchWord (s : State) (nbits w : Nat) : State := s.placeFetchWord nbits w

end Sys2Proof.Machine
end

