-- ==== Sys2Proof/Machine/HostActions.lean ====
section
/-! DEFINITION. What the host may do between two steps (60_exceptions.md R513, 20_memory.md R72): the bus and
register accessors and `wake_stop`. `load` and `reset` stand in Machine/Cartridge.lean and Machine/Launch.lean. -/

namespace Sys2Proof.Machine

/-- `read(a)`: the bus read of 20_memory.md R52. -/
def State.hostRead (s : State) (addr : Word) : Byte := s.read addr

/-- `write(a, v)`: the bus write of 20_memory.md R53, so a write to ROM is ignored. The host raises an interrupt
by writing IF (60_exceptions.md R501). -/
def State.hostWrite (s : State) (addr : Word) (v : Byte) : State := s.write addr v

/-- The register accessors (60_exceptions.md R513). -/
def State.hostSetReg (s : State) (r : Reg8) (v : Byte) : State := s.setReg r v

/-- The accessor of F, masked (10_state.md R22, 92_eei_decisions.md D28). -/
def State.hostSetF (s : State) (v : Byte) : State := s.setF v

/-- The accessor of SP. -/
def State.hostSetSp (s : State) (v : Word) : State := s.setSp v

/-- The accessor of PC. -/
def State.hostSetPc (s : State) (v : Word) : State := s.setPc v

/-- `wake_stop()` (60_exceptions.md R507): clears `stopped` and changes nothing else. -/
def State.wakeStop (s : State) : State := { s with stopped := false }

end Sys2Proof.Machine
end

