-- ==== Sys2Proof/Machine/Cartridge.lean ====
section
/-! DEFINITION. The cartridge loader (20_memory.md R75 to R82). It is software outside the core and decides what
the ROM and external-RAM regions hold when the first step runs. -/

namespace Sys2Proof.Machine

/-- The load-time errors (20_memory.md R75 to R82; the table of 60_exceptions.md R500). -/
inductive CartridgeError where
  /-- Raised before `load` when there are no bytes (R82). Safe: nothing is loaded. -/
  | ioFailure
  /-- A short buffer (R75), an unprintable title (R76) or a checksum mismatch (R77). Safe: nothing is loaded. -/
  | corruptCartridge
  /-- A recognized cartridge type other than ROM only (R78). Safe: nothing is loaded. -/
  | unsupportedMapper
  /-- An unrecognized type, RAM-size or ROM-size code (R78, R79). Safe: nothing is loaded. -/
  | invalidCartridgeType
  deriving DecidableEq, Repr

/-- A validated cartridge: the title (R76), the banks it declares (R79) and the mapped bytes (R80). -/
structure Cartridge where
  title : List Byte
  ramBanks : Nat
  romBanks : Nat
  rom : List Byte
  deriving DecidableEq, Repr

/-- Bytes 0x134 to 0x142 (R76). -/
def titleBytes (byteAt : Nat → Byte) : List Byte := (List.range 15).map fun i => byteAt (0x134 + i)

/-- Whether a byte is in 0x20–0x7E (R76). -/
def isPrintable (v : Byte) : Bool := 0x20 ≤ v.toNat && v.toNat ≤ 0x7E

/-- Printable bytes, then only 0x00 (R76). -/
def titleValid : List Byte → Bool
  | [] => true
  | v :: rest => if v = 0 then rest.all (· == 0) else isPrintable v && titleValid rest

/-- `c <- 0; for i in 0x134..0x14C: c <- (c - bytes[i] - 1) mod 256` (R77). -/
def headerChecksum (byteAt : Nat → Byte) : Byte :=
  (List.range 25).foldl (fun c i => c - byteAt (0x134 + i) - 1) 0

/-- What a cartridge-type code names (R78). -/
inductive MapperKind where
  | romOnly | unsupported | unrecognized
  deriving DecidableEq, Repr

/-- The cartridge-type codes (R78). -/
def mapperKind (code : Byte) : MapperKind :=
  if code = 0 then .romOnly
  else if [0x01, 0x02, 0x03, 0x05, 0x06, 0x08, 0x09, 0x0B, 0x0C, 0x0D, 0x0F, 0x10, 0x11, 0x12, 0x13,
      0x19, 0x1A, 0x1B, 0x1C, 0x1D, 0x1E, 0x20, 0x22, 0xFC, 0xFD, 0xFE, 0xFF].contains code.toNat then .unsupported
  else .unrecognized

/-- The RAM-size table, in banks of 8 KiB (R79). -/
def ramBankCount (code : Byte) : Option Nat :=
  match code.toNat with
  | 0x00 => some 0
  | 0x02 => some 1
  | 0x03 => some 4
  | 0x04 => some 16
  | 0x05 => some 8
  | _ => none

/-- The ROM-size table, in banks of 16 KiB: `2^(c+1)` for c in 0x00..0x08 (R79). -/
def romBankCount (code : Byte) : Option Nat :=
  if code.toNat ≤ 0x08 then some (2 ^ (code.toNat + 1)) else none

/-- The checks of R75 to R79 in the order of R81, on a buffer of `size` bytes: the RAM and ROM bank counts, or
the first failing step's error. -/
def checkHeader (size : Nat) (byteAt : Nat → Byte) : Except CartridgeError (Nat × Nat) :=
  if size < 0x8000 then .error .corruptCartridge
  else if !titleValid (titleBytes byteAt) then .error .corruptCartridge
  else if headerChecksum byteAt ≠ byteAt 0x14D then .error .corruptCartridge
  else
    match mapperKind (byteAt 0x147) with
    | .unsupported => .error .unsupportedMapper
    | .unrecognized => .error .invalidCartridgeType
    | .romOnly =>
      match ramBankCount (byteAt 0x149), romBankCount (byteAt 0x148) with
      | some ram, some rom => .ok (ram, rom)
      | _, _ => .error .invalidCartridgeType

/-- `load(bytes)` up to the mapping (R75 to R80): bytes beyond 0x7FFF are not mapped. -/
def loadCartridge (bytes : List Byte) : Except CartridgeError Cartridge :=
  match checkHeader bytes.length (fun i => bytes.getD i 0) with
  | .error e => .error e
  | .ok (ram, rom) =>
    .ok { title := (titleBytes (fun i => bytes.getD i 0)).takeWhile (· != 0), ramBanks := ram, romBanks := rom,
          rom := bytes.take 0x8000 }

/-- The cells of consecutive bytes from storage address `k` on, in canonical form. -/
def cellsFrom (k : Nat) (bytes : List Byte) : Memory :=
  match bytes with
  | [] => []
  | v :: rest =>
    if v = Config.unlistedByte then cellsFrom (k + 1) rest else (k, v) :: cellsFrom (k + 1) rest

/-- Mapping a cartridge (R80, R59): the ROM region holds its bytes, every other cell is unchanged, and its
RAM-bank count decides the external-RAM region. -/
def State.mapCartridge (s : State) (cart : Cartridge) : State :=
  { s with
    mem := cellsFrom 0 (cart.rom.take 0x8000) ++ s.mem.filter (fun cell => 0x8000 ≤ cell.1)
    ramBanks := some cart.ramBanks }

/-- `load(bytes)` on a core (R81): "must not mutate the Memory Bus" on failure. -/
def State.load (s : State) (bytes : List Byte) : Except CartridgeError State :=
  match loadCartridge bytes with
  | .error e => .error e
  | .ok cart => .ok (s.mapCartridge cart)

/-- Loading from a source of bytes that may be unavailable (R82). -/
def State.loadFrom (s : State) (source : Option (List Byte)) : Except CartridgeError State :=
  match source with
  | none => .error .ioFailure
  | some bytes => s.load bytes

end Sys2Proof.Machine
end

