-- ==== Sys2Proof/Machine/Launch.lean ====
section
/-! DEFINITION. Construction and launch (70_reset_and_hazards.md R550): the host's `reset`. -/

namespace Sys2Proof.Machine

/-- The launch parameter `RESET_PROFILE` (00_scope.md section 3). -/
inductive ResetProfile where
  | zero | postBoot
  deriving DecidableEq, Repr

/-- The launch parameters of a construction (00_scope.md R4). `initMem` lists the bytes of `INIT_MEM` that are
not `Config.unlistedByte`, by bus address. -/
structure LaunchParams where
  profile : ResetProfile
  haltBugMode : Bool
  initMem : List Host.Cell
  deriving DecidableEq, Repr

/-- The storage `INIT_MEM` gives (20_memory.md R64): only VRAM, external RAM, WRAM, OAM, I/O, HRAM and IE take
bytes from it. -/
def initialStorage (initMem : List Host.Cell) : Memory :=
  initMem.foldl (fun m cell => if 0x8000 ≤ cell.1 && ownsStorage cell.1 then Memory.set m cell.1 cell.2 else m) []

/-- The hand-over values of the DMG boot ROM (10_state.md R43). -/
def State.postBootRegisters (s : State) : State :=
  { s with a := 0x01, f := 0xB0, b := 0x00, c := 0x13, d := 0x00, e := 0xD8, h := 0x01, l := 0x4D,
           sp := 0xFFFE, pc := 0x0100 }

/-- Construction (70_reset_and_hazards.md R550 item 1). -/
def State.construct (p : LaunchParams) : State :=
  let base : State := { State.reset with mem := initialStorage p.initMem, haltBugMode := p.haltBugMode }
  match p.profile with
  | .zero => base
  | .postBoot => base.postBootRegisters

/-- Reset: "the construction of the core followed by a successful cartridge load" (70_reset_and_hazards.md
R550). No state of a previous run survives. -/
def State.launch (p : LaunchParams) (bytes : List Byte) : Except CartridgeError State :=
  (State.construct p).load bytes

end Sys2Proof.Machine
end

