-- ==== Sys2Proof/Safety.lean ====
section
/-! DEFINITION. The terms the claims use: what a well-kept state is, what an instruction may leave unchanged, and
which addresses a store reaches. -/

namespace Sys2Proof.Machine

/-! ### The invariant -/

/-- What every step keeps.
* bits 3..0 of F are zero: "in every reachable state" (10_state.md R22);
* the storage list is in its canonical form;
* a latch that waits for the next instruction is set only while the core runs: EI and HALT set them
  (10_state.md R34, R37), and no instruction runs between them and the fetch that consumes them;
* no instruction sets both HALT's and STOP's suspension (46_system.md R452);
* the halt-bug latch is set only when `HALT_BUG = true` (10_state.md R37). -/
structure State.Inv (s : State) : Prop where
  lowNibble : s.f &&& 0x0F = 0
  storage : Memory.wf s.mem = true
  latches : s.eiPending = true ∨ s.haltBug = true → s.halted = false ∧ s.stopped = false
  oneSuspension : ¬(s.halted = true ∧ s.stopped = true)
  bugMode : s.haltBug = true → s.haltBugMode = true

/-! ### Running -/

/-- A state whose next step fetches an instruction (30_encoding.md R109): a cartridge is loaded, no fault is
recorded, the core is neither stopped nor halted, and no interrupt is taken first. -/
structure State.Fetches (s : State) : Prop where
  loaded : s.ramBanks ≠ none
  sound : s.fault = none
  notStopped : s.stopped = false
  notHalted : s.halted = false
  noInterrupt : ¬(s.ime = true ∧ s.pending ≠ 0)

/-! ### Frames -/

/-- Every 8-bit register but those listed is unchanged. -/
def RegsKept (changed : List Reg8) (s t : State) : Prop := ∀ r, r ∉ changed → t.reg r = s.reg r

/-- IME, the latches, the suspension bits, the fault record, the cartridge's RAM and the launch parameter are
unchanged. -/
def ControlKept (s t : State) : Prop :=
  t.ime = s.ime ∧ t.eiPending = s.eiPending ∧ t.halted = s.halted ∧ t.stopped = s.stopped ∧
    t.haltBug = s.haltBug ∧ t.fault = s.fault ∧ t.ramBanks = s.ramBanks ∧ t.haltBugMode = s.haltBugMode

/-- Every byte of memory reads as before. -/
def MemoryKept (s t : State) : Prop := ∀ addr, t.read addr = s.read addr

/-- F is exactly `flags(z, n, h, c)` (00_scope.md R8). -/
def FlagsAre (t : State) (z n h c : Bool) : Prop :=
  t.f.toNat = z.toNat * 0x80 + n.toNat * 0x40 + h.toNat * 0x20 + c.toNat * 0x10

/-! ### Stores -/

/-- The address whose cell an address reaches: itself, or for the echo the WRAM address it aliases (20_memory.md
R54). -/
def cellAddress (addr : Word) : Word :=
  if 0xE000 ≤ addr.toNat ∧ addr.toNat ≤ 0xFDFF then addr - 0x2000 else addr

/-- Whether a store to the address lands: not in ROM (20_memory.md R58), the gap (R60), or the external RAM window
of a cartridge without RAM (R59). -/
def Writable (s : State) (addr : Word) : Prop :=
  0x8000 ≤ addr.toNat ∧ ¬(0xFEA0 ≤ addr.toNat ∧ addr.toNat ≤ 0xFEFF) ∧
    (0xA000 ≤ addr.toNat ∧ addr.toNat ≤ 0xBFFF → ∃ n, s.ramBanks = some n ∧ n ≠ 0)

/-- From `s` to `t`, memory changed by the store of `v` at `addr` and nothing else: the byte is there if the
address is writable, and every address with another cell reads as before; a store that does not land changes no
byte (20_memory.md R53). -/
def Stored (addr : Word) (v : Byte) (s t : State) : Prop :=
  (Writable s addr → t.read addr = v) ∧
    (¬Writable s addr → MemoryKept s t) ∧
    ∀ other, cellAddress other ≠ cellAddress addr → t.read other = s.read other

/-- From `s` to `t`, memory changed by the two byte stores of a word and nothing else: its low byte at `low`, its
high byte at the next address (20_memory.md R55, R56), each decoded on its own. -/
def StoredWord (low : Word) (v : Word) (s t : State) : Prop :=
  (Writable s low → (t.read low).toNat = v.toNat % 256) ∧
    (Writable s (low + 1) → (t.read (low + 1)).toNat = v.toNat / 256) ∧
    (¬Writable s low → t.read low = s.read low) ∧
    (¬Writable s (low + 1) → t.read (low + 1) = s.read (low + 1)) ∧
    ∀ other, cellAddress other ≠ cellAddress low → cellAddress other ≠ cellAddress (low + 1) →
      t.read other = s.read other

end Sys2Proof.Machine
end

