-- ==== Sys2Proof/Certificates/Slice0/Obligations.lean ====
section
/-! DEFINITION. The statements for the provers, one `def Obligations.<Name> : Prop` each, and the terms they are
written in. A statement about an instruction names the bytes the spec encodes it by, concludes that `exec` answers
a next state, and says what that state holds and what it leaves unchanged. `exec` runs a routine, so `s.pc` is
PCnext (30_encoding.md R110). -/

open Sys2Proof Sys2Proof.Machine

/-! ### Terms -/

namespace Sys2Proof.Claims

/-- A byte by its value. -/
def byte (k : Nat) : Byte := BitVec.ofNat 8 k

/-- The `r8` code of a register (30_encoding.md R104). -/
def code (r : Reg8) : Nat :=
  match r with
  | .b => 0
  | .c => 1
  | .d => 2
  | .e => 3
  | .h => 4
  | .l => 5
  | .a => 7

/-- The `r16` code (30_encoding.md R105). -/
def pairCode (p : Pair) : Nat :=
  match p with
  | .bc => 0
  | .de => 1
  | .hl => 2
  | .sp => 3

/-- The `r16stk` code (30_encoding.md R106). -/
def stkCode (p : StkPair) : Nat :=
  match p with
  | .bc => 0
  | .de => 1
  | .hl => 2
  | .af => 3

/-- The `cc` code (30_encoding.md R107). -/
def ccCode (cc : Cond) : Nat :=
  match cc with
  | .nz => 0
  | .z => 1
  | .nc => 2
  | .c => 3

/-- When a condition holds (30_encoding.md R107), by the bits of F. -/
def Holds (cc : Cond) (s : State) : Prop :=
  match cc with
  | .nz => s.f.getLsbD 7 = false
  | .z => s.f.getLsbD 7 = true
  | .nc => s.f.getLsbD 4 = false
  | .c => s.f.getLsbD 4 = true

/-- The operation code of the ALU rows (42_alu_8bit.md, operand forms). -/
def aluCode (op : AluOp) : Nat :=
  match op with
  | .add => 0
  | .adc => 1
  | .sub => 2
  | .sbc => 3
  | .and => 4
  | .xor => 5
  | .or => 6
  | .cp => 7

/-- The operation code of the 0xCB rotates and shifts (30_encoding.md R114). -/
def shiftCode (op : ShiftOp) : Nat :=
  match op with
  | .rlc => 0
  | .rrc => 1
  | .rl => 2
  | .rr => 3
  | .sla => 4
  | .sra => 5
  | .swap => 6
  | .srl => 7

/-- The table of 44_rotate_shift_bit.md R350, in numbers: result and carry out of `v` with carry-in `cin`. -/
def shiftTable (op : ShiftOp) (v cin : Nat) : Nat × Nat :=
  match op with
  | .rlc => ((2 * v + v / 128) % 256, v / 128)
  | .rrc => (v / 2 + 128 * (v % 2), v % 2)
  | .rl => ((2 * v + cin) % 256, v / 128)
  | .rr => (v / 2 + 128 * cin, v % 2)
  | .sla => (2 * v % 256, v / 128)
  | .sra => (v / 2 + 128 * (v / 128), v % 2)
  | .swap => (16 * (v % 16) + v / 16, 0)
  | .srl => (v / 2, v % 2)

/-- The pending set (60_exceptions.md R502): both enabled at 0xFFFF and requested at 0xFF0F. -/
def pendingSet (s : State) : Byte := s.read 0xFFFF &&& s.read 0xFF0F &&& 0x1F

/-- A load: the instruction, its bytes, the register it loads, the address it reads, its cost. -/
structure LoadForm where
  instr : Instr
  bytes : List Byte
  dst : Reg8
  addr : Word
  cost : Nat

/-- A store: the instruction, its bytes, the address it writes, the byte it stores, its cost. -/
structure StoreForm where
  instr : Instr
  bytes : List Byte
  addr : Word
  value : Byte
  cost : Nat

/-- An ALU operation on A: the instruction, its bytes, its second operand, its cost. -/
structure AluForm where
  instr : Instr
  bytes : List Byte
  operand : Byte
  cost : Nat

/-- The loads of R152, R155, R156, R159, R161 and R163. -/
def loadForms (s : State) (r : Reg8) (n : Byte) (nn : Word) : List LoadForm :=
  [⟨rowLdRHl r, [byte (0x46 + 8 * code r)], r, s.hl, 8⟩,
   ⟨.ld_a_mbc, [0x0A], .a, s.bc, 8⟩,
   ⟨.ld_a_mde, [0x1A], .a, s.de, 8⟩,
   ⟨.ld_a_mnn nn, [0xFA, byte (nn.toNat % 256), byte (nn.toNat / 256)], .a, nn, 16⟩,
   ⟨.ldh_a_mn n, [0xF0, n], .a, 0xFF00 + zext16 n, 12⟩,
   ⟨.ldh_a_mc, [0xF2], .a, 0xFF00 + zext16 s.c, 8⟩]

/-- The stores of R153, R154, R157, R158, R160, R162 and R164. -/
def storeForms (s : State) (r : Reg8) (n : Byte) (nn : Word) : List StoreForm :=
  [⟨rowLdHlR r, [byte (0x70 + code r)], s.hl, s.reg r, 8⟩,
   ⟨.ld_mhl_n n, [0x36, n], s.hl, n, 12⟩,
   ⟨.ld_mbc_a, [0x02], s.bc, s.a, 8⟩,
   ⟨.ld_mde_a, [0x12], s.de, s.a, 8⟩,
   ⟨.ld_mnn_a nn, [0xEA, byte (nn.toNat % 256), byte (nn.toNat / 256)], nn, s.a, 16⟩,
   ⟨.ldh_mn_a n, [0xE0, n], 0xFF00 + zext16 n, s.a, 12⟩,
   ⟨.ldh_mc_a, [0xE2], 0xFF00 + zext16 s.c, s.a, 8⟩]

/-- The register, `[HL]` and immediate forms of a two-operand operation (42_alu_8bit.md, operand forms). -/
def aluForms (op : AluOp) (s : State) (r : Reg8) (n : Byte) : List AluForm :=
  [⟨rowAluR op r, [byte (0x80 + 8 * aluCode op + code r)], s.reg r, 4⟩,
   ⟨rowAluHl op, [byte (0x80 + 8 * aluCode op + 6)], s.read s.hl, 8⟩,
   ⟨rowAluN op n, [byte (0xC6 + 8 * aluCode op), n], n, 8⟩]

/-- The form completes with A holding `r`, the flags Z = (r = 0) and the given N, H and C, and changes nothing else
but the cycle counter. -/
def RunsOnA (form : AluForm) (s : State) (r : Nat) (n h c : Bool) : Prop :=
  encode form.instr = form.bytes ∧
    ∃ t, exec form.instr s = .next t ∧
      t.a.toNat = r ∧ FlagsAre t (decide (r = 0)) n h c ∧
      RegsKept [.a] s t ∧ t.sp = s.sp ∧ t.pc = s.pc ∧ ControlKept s t ∧ MemoryKept s t ∧
      t.cycles = s.cycles + form.cost

/-- The eleven rows of 46_system.md R456 with their bytes. -/
def unassignedRows : List (Instr × Byte) :=
  [(.unassigned_d3, 0xD3), (.unassigned_db, 0xDB), (.unassigned_dd, 0xDD), (.unassigned_e3, 0xE3),
   (.unassigned_e4, 0xE4), (.unassigned_eb, 0xEB), (.unassigned_ec, 0xEC), (.unassigned_ed, 0xED),
   (.unassigned_f4, 0xF4), (.unassigned_fc, 0xFC), (.unassigned_fd, 0xFD)]

/-- The unassigned bytes (30_encoding.md R115). -/
def unassignedBytes : List Byte := [0xD3, 0xDB, 0xDD, 0xE3, 0xE4, 0xEB, 0xEC, 0xED, 0xF4, 0xFC, 0xFD]

end Sys2Proof.Claims

open Sys2Proof.Claims

/-! ### Encoding -/

/-- Decoding what `encode` writes gives the instruction back, with every operand, whatever follows it, for every
well-formed instruction (every row but PREFIX CB alone, whose bytes spell the extended instruction). -/
def Obligations.DecodeOfEncode : Prop :=
  ∀ (i : Instr) (rest : List Byte), i.wf = true → decode (encode i ++ rest) = .ok (i, rest)

/-- Each word has one meaning: what `decode` reads is a well-formed instruction, and its encoding is exactly the
bytes it was read from ("must cover every possible opcode byte value exactly once", 30_encoding.md R119). -/
def Obligations.EncodeOfDecode : Prop :=
  ∀ (bytes : List Byte) (i : Instr) (rest : List Byte),
    decode bytes = .ok (i, rest) → i.wf = true ∧ encode i ++ rest = bytes

/-- 30_encoding.md R117: the length is told from the first byte alone, by the two lists of the rule. -/
def Obligations.LengthFromFirstByte : Prop :=
  ∀ (op : Byte) (tail : List Byte), 2 ≤ tail.length →
    ∃ i rest, decode (op :: tail) = .ok (i, rest) ∧
      (op.toNat ∈ [0x01, 0x11, 0x21, 0x31, 0x08, 0xC2, 0xC3, 0xC4, 0xCA, 0xCC, 0xCD, 0xD2, 0xD4, 0xDA, 0xDC, 0xEA,
          0xFA] → rest = tail.drop 2) ∧
      (op.toNat ∈ [0x06, 0x0E, 0x16, 0x1E, 0x26, 0x2E, 0x36, 0x3E, 0x10, 0x18, 0x20, 0x28, 0x30, 0x38, 0xC6, 0xCE,
          0xD6, 0xDE, 0xE6, 0xEE, 0xF6, 0xFE, 0xE0, 0xE8, 0xF0, 0xF8, 0xCB] → rest = tail.drop 1) ∧
      (op.toNat ∉ [0x01, 0x11, 0x21, 0x31, 0x08, 0xC2, 0xC3, 0xC4, 0xCA, 0xCC, 0xCD, 0xD2, 0xD4, 0xDA, 0xDC, 0xEA,
          0xFA, 0x06, 0x0E, 0x16, 0x1E, 0x26, 0x2E, 0x36, 0x3E, 0x10, 0x18, 0x20, 0x28, 0x30, 0x38, 0xC6, 0xCE,
          0xD6, 0xDE, 0xE6, 0xEE, 0xF6, 0xFE, 0xE0, 0xE8, 0xF0, 0xF8, 0xCB] → rest = tail)

/-- A few words read off the opcode maps (30_encoding.md R108, R114). -/
def Obligations.WordsOfTheOpcodeMap : Prop :=
  decode [0x41] = .ok (.ld_b_c, []) ∧
  decode [0x21, 0xCD, 0xAB] = .ok (.ld_hl_nn 0xABCD, []) ∧
  decode [0x08, 0x00, 0xC1] = .ok (.ld_mnn_sp 0xC100, []) ∧
  decode [0x9E] = .ok (.sbc_a_mhl, []) ∧
  decode [0x39] = .ok (.add_hl_sp, []) ∧
  decode [0x30, 0xFD] = .ok (.jr_nc_e8 0xFD, []) ∧
  decode [0xEF] = .ok (.rst_0x28, []) ∧
  decode [0x76] = .ok (.halt, []) ∧
  decode [0xCB, 0x2E] = .ok (.sra_mhl, []) ∧
  decode [0xCB, 0x7C] = .ok (.bit_7_h, []) ∧
  decode [0xD3] = .ok (.unassigned_d3, [])

/-- 30_encoding.md R111, 46_system.md R455: the byte 0xCB selects the extended table, by the byte after it alone,
and the prefix row's routine is the routine of the extended row: the same next state, cost included. -/
def Obligations.PrefixRunsTheExtendedRoutine : Prop :=
  ∀ (sub b2 : Byte) (s : State),
    decodeFetched 0xCB sub b2 = decodeExtended sub ∧
      ∃ t, exec (.prefix_cb sub) s = .next t ∧ exec (decodeExtended sub) s = .next t

/-! ### Memory -/

/-- 20_memory.md R51, R52, R58 to R63: what a read of each region answers. Plain regions answer the cell of the
storage list that carries their own address. -/
def Obligations.EveryAddressReadsItsRegion : Prop :=
  ∀ (s : State) (addr : Word),
    (addr.toNat < 0xA000 → s.read addr = Memory.get s.mem addr.toNat) ∧
    (0xA000 ≤ addr.toNat → addr.toNat < 0xC000 → ∀ n, s.ramBanks = some n → n ≠ 0 →
      s.read addr = Memory.get s.mem addr.toNat) ∧
    (0xA000 ≤ addr.toNat → addr.toNat < 0xC000 → s.ramBanks = some 0 ∨ s.ramBanks = none → s.read addr = 0xFF) ∧
    (0xC000 ≤ addr.toNat → addr.toNat < 0xE000 → s.read addr = Memory.get s.mem addr.toNat) ∧
    (0xE000 ≤ addr.toNat → addr.toNat < 0xFE00 → s.read addr = Memory.get s.mem (addr.toNat - 0x2000)) ∧
    (0xFE00 ≤ addr.toNat → addr.toNat < 0xFEA0 → s.read addr = Memory.get s.mem addr.toNat) ∧
    (0xFEA0 ≤ addr.toNat → addr.toNat < 0xFF00 → s.read addr = 0xFF) ∧
    (0xFF00 ≤ addr.toNat → s.read addr = Memory.get s.mem addr.toNat)

/-- 20_memory.md R53: a write stores into the one cell a read would read, or changes no state; it has no other
effect. -/
def Obligations.BusWriteReachesOneCell : Prop :=
  ∀ (s : State) (addr : Word) (v : Byte),
    Stored addr v s (s.write addr v) ∧
      { s.write addr v with mem := s.mem } = s ∧
      (¬Writable s addr → s.write addr v = s)

/-- 20_memory.md R54: the echo is a read-write alias of WRAM 0xC000–0xDDFF, and 0xDE00–0xDFFF has no echo. -/
def Obligations.EchoAliasesWorkingRam : Prop :=
  (∀ (s : State) (addr : Word) (v : Byte), 0xC000 ≤ addr.toNat → addr.toNat ≤ 0xDDFF →
    (s.write addr v).read (addr + 0x2000) = v ∧
      (s.write (addr + 0x2000) v).read addr = v ∧
      s.read (addr + 0x2000) = s.read addr) ∧
  ∀ (s : State) (addr other : Word) (v : Byte), 0xDE00 ≤ addr.toNat → addr.toNat ≤ 0xDFFF → other ≠ addr →
    (s.write addr v).read other = s.read other

/-- 20_memory.md R55, R56, 00_scope.md R9: a 16-bit access is two byte accesses, the low byte at the lower address,
the second address modulo 65536, at any alignment. -/
def Obligations.WordAccessIsLittleEndian : Prop :=
  ∀ (s : State) (addr : Word) (v : Word),
    (s.read16 addr).toNat =
        (s.read (BitVec.ofNat 16 ((addr.toNat + 1) % 65536))).toNat * 256 + (s.read addr).toNat ∧
      StoredWord addr v s (s.write16 addr v) ∧
      (Writable s addr → Writable s (addr + 1) → (s.write16 addr v).read16 addr = v)

/-! ### Registers -/

/-- 10_state.md R21: writing an 8-bit register changes no other state. -/
def Obligations.RegisterWriteChangesOnlyThatRegister : Prop :=
  ∀ (s : State) (r q : Reg8) (v : Byte),
    (s.setReg r v).reg r = v ∧
      (q ≠ r → (s.setReg r v).reg q = s.reg q) ∧
      (s.setReg r v).f = s.f ∧ (s.setReg r v).sp = s.sp ∧ (s.setReg r v).pc = s.pc ∧
      ControlKept s (s.setReg r v) ∧ (s.setReg r v).mem = s.mem ∧ (s.setReg r v).cycles = s.cycles

/-- 10_state.md R22, R26: every write of F, by an instruction and by POP AF's pair write, masks the low nibble to zero,
and a flag write leaves the four flags as given. -/
def Obligations.EveryWriteOfFMasksTheLowNibble : Prop :=
  ∀ (s : State) (v : Byte) (w : Word) (z n h c : Bool),
    s.setF v = { s with f := v &&& 0xF0 } ∧ (s.setAf w).f &&& 0x0F = 0 ∧ (s.setStkPair .af w).f &&& 0x0F = 0 ∧
      FlagsAre (s.setFlags z n h c) z n h c ∧
      (s.setFlags z n h c).flagZ = z ∧ (s.setFlags z n h c).flagN = n ∧
      (s.setFlags z n h c).flagH = h ∧ (s.setFlags z n h c).flagC = c

/-- 10_state.md R23, R24, 00_scope.md R7: a pair reads as high * 256 + low, a pair write is read back (for AF, masked),
and it writes exactly its two registers. -/
def Obligations.PairsPackHighRegisterFirst : Prop :=
  ∀ (s : State) (v : Word),
    s.bc.toNat = s.b.toNat * 256 + s.c.toNat ∧ s.de.toNat = s.d.toNat * 256 + s.e.toNat ∧
      s.hl.toNat = s.h.toNat * 256 + s.l.toNat ∧ s.af.toNat = s.a.toNat * 256 + s.f.toNat ∧
      (s.setBc v).bc = v ∧ { s.setBc v with b := s.b, c := s.c } = s ∧
      (s.setDe v).de = v ∧ { s.setDe v with d := s.d, e := s.e } = s ∧
      (s.setHl v).hl = v ∧ { s.setHl v with h := s.h, l := s.l } = s ∧
      (s.setAf v).af = v &&& 0xFFF0 ∧ { s.setAf v with a := s.a, f := s.f } = s

/-! ### Reset, launch and the loader -/

/-- 10_state.md R42, R43, 70_reset_and_hazards.md R550, R551, 20_memory.md R64: what a launch leaves, for every
value of the launch parameters (the initial memory given as a canonical storage list of the regions `INIT_MEM`
covers) and every image the loader accepts. -/
def Obligations.LaunchLeavesTheResetState : Prop :=
  ∀ (profile : ResetProfile) (bug : Bool) (initMem : Memory) (bytes : List Byte) (t : State),
    Memory.wf initMem = true → (∀ cell ∈ initMem, 0x8000 ≤ cell.1) →
    State.launch ⟨profile, bug, initMem⟩ bytes = .ok t →
      (profile = .zero →
        t.a = 0 ∧ t.f = 0 ∧ t.b = 0 ∧ t.c = 0 ∧ t.d = 0 ∧ t.e = 0 ∧ t.h = 0 ∧ t.l = 0 ∧ t.sp = 0 ∧ t.pc = 0) ∧
      (profile = .postBoot →
        t.a = 0x01 ∧ t.f = 0xB0 ∧ t.b = 0x00 ∧ t.c = 0x13 ∧ t.d = 0x00 ∧ t.e = 0xD8 ∧ t.h = 0x01 ∧ t.l = 0x4D ∧
          t.sp = 0xFFFE ∧ t.pc = 0x0100) ∧
      t.ime = false ∧ t.eiPending = false ∧ t.halted = false ∧ t.stopped = false ∧ t.haltBug = false ∧
      t.cycles = 0 ∧ t.fault = none ∧ t.haltBugMode = bug ∧
      (∀ addr : Word, addr.toNat < 0x8000 → t.read addr = bytes.getD addr.toNat 0) ∧
      ∀ addr : Word, 0x8000 ≤ addr.toNat → Writable t addr → cellAddress addr = addr →
        t.read addr = Memory.get initMem addr.toNat

/-- 20_memory.md R75 to R79 in the order of R81: the checks of the loader, each with its error. The title is valid
when every byte at 0x134..0x142 is 0x00 or in 0x20..0x7E and no byte in 0x20..0x7E follows a 0x00 (R76). An accepted
buffer has the two bank counts of the tables, and its title is the bytes before the first 0x00. -/
def Obligations.LoaderChecksInOrder : Prop :=
  (∀ (size : Nat) (at_ : Nat → Byte),
    let printable := fun i => 0x20 ≤ (at_ (0x134 + i)).toNat ∧ (at_ (0x134 + i)).toNat ≤ 0x7E
    let titleOk := (∀ i < 15, at_ (0x134 + i) = 0 ∨ printable i) ∧
      ∀ j < 15, ∀ i < j, at_ (0x134 + i) = 0 → ¬printable j
    let sum := ((List.range 25).map fun i => (at_ (0x134 + i)).toNat + 1).sum
    let sumOk := (sum + (at_ 0x14D).toNat) % 256 = 0
    (size < 0x8000 ∨ ¬titleOk ∨ ¬sumOk → checkHeader size at_ = .error .corruptCartridge) ∧
      (0x8000 ≤ size → titleOk → sumOk →
        ((at_ 0x147).toNat ∈ [0x01, 0x02, 0x03, 0x05, 0x06, 0x08, 0x09, 0x0B, 0x0C, 0x0D, 0x0F, 0x10, 0x11, 0x12,
            0x13, 0x19, 0x1A, 0x1B, 0x1C, 0x1D, 0x1E, 0x20, 0x22, 0xFC, 0xFD, 0xFE, 0xFF] →
          checkHeader size at_ = .error .unsupportedMapper) ∧
        ((at_ 0x147).toNat ∉ [0x00, 0x01, 0x02, 0x03, 0x05, 0x06, 0x08, 0x09, 0x0B, 0x0C, 0x0D, 0x0F, 0x10, 0x11,
            0x12, 0x13, 0x19, 0x1A, 0x1B, 0x1C, 0x1D, 0x1E, 0x20, 0x22, 0xFC, 0xFD, 0xFE, 0xFF] →
          checkHeader size at_ = .error .invalidCartridgeType) ∧
        ((at_ 0x147).toNat = 0 →
          ((at_ 0x149).toNat ∉ [0, 2, 3, 4, 5] ∨ 8 < (at_ 0x148).toNat →
            checkHeader size at_ = .error .invalidCartridgeType) ∧
          ∀ banks, ((at_ 0x149).toNat, banks) ∈ [(0, 0), (2, 1), (3, 4), (4, 16), (5, 8)] →
            (at_ 0x148).toNat ≤ 8 → checkHeader size at_ = .ok (banks, 2 ^ ((at_ 0x148).toNat + 1))))) ∧
  ∀ (bytes : List Byte) (cart : Cartridge), loadCartridge bytes = .ok cart →
    checkHeader bytes.length (fun i => bytes.getD i 0) = .ok (cart.ramBanks, cart.romBanks) ∧
      ∃ n ≤ 15, cart.title = (bytes.drop 0x134).take n ∧ 0 ∉ cart.title ∧
        ∀ k < 15, n ≤ k → bytes.getD (0x134 + k) 0 = 0

/-- 20_memory.md R80 to R82, R59: a successful load maps the first 0x8000 bytes of the buffer to ROM, leaves every
writable cell as it was, and takes the RAM-bank count from the header; a failed load answers its error and no
machine. The model's own choice (notes/assumptions/15.md, DESIGN CHOICE): bytes that are not there are
`loadFrom`'s `IoFailure`, and a load may map into any state, a running one too. -/
def Obligations.LoadMapsTheImage : Prop :=
  ∀ (s : State) (bytes : List Byte),
    (∀ err, checkHeader bytes.length (fun i => bytes.getD i 0) = .error err → s.load bytes = .error err) ∧
      s.loadFrom none = .error .ioFailure ∧ s.loadFrom (some bytes) = s.load bytes ∧
      ∀ ram rom, checkHeader bytes.length (fun i => bytes.getD i 0) = .ok (ram, rom) →
        ∃ t, s.load bytes = .ok t ∧
          (∀ addr : Word, addr.toNat < 0x8000 → t.read addr = bytes.getD addr.toNat 0) ∧
          (∀ k, 0x8000 ≤ k → Memory.get t.mem k = Memory.get s.mem k) ∧
          t.ramBanks = some ram ∧ { t with mem := s.mem, ramBanks := s.ramBanks } = s

/-- The invariant holds at reset, and of every launch from a canonical initial memory. -/
def Obligations.InvariantAtReset : Prop :=
  State.reset.Inv ∧
    ∀ (p : LaunchParams) (bytes : List Byte) (t : State), State.launch p bytes = .ok t → t.Inv

/-- The invariant is kept by every step, from every state that meets it: F's low nibble stays zero, the storage
list stays canonical, the latches and the suspension bits stay consistent. -/
def Obligations.EveryStepKeepsTheInvariant : Prop :=
  ∀ (s t : State), s.Inv → step s = .next t → t.Inv

/-- 10_state.md R44, 20_memory.md R58: no step changes the ROM region, the cartridge's RAM-bank count or the launch
parameter `HALT_BUG`: "nothing writes them after load". -/
def Obligations.NoStepChangesTheCartridge : Prop :=
  ∀ (s t : State), step s = .next t →
    (∀ addr : Word, addr.toNat < 0x8000 → t.read addr = s.read addr) ∧
      t.ramBanks = s.ramBanks ∧ t.haltBugMode = s.haltBugMode

/-- 60_exceptions.md R513, 20_memory.md R72: the host's accessors act as the bus and register rules say: a host write
is the bus write and changes memory alone, a register accessor writes its register alone, F masked. -/
def Obligations.HostActionsFollowTheBusRules : Prop :=
  ∀ (s : State) (addr : Word) (v : Byte) (r : Reg8) (w : Word),
    s.hostRead addr = s.read addr ∧
      s.hostWrite addr v = s.write addr v ∧ Stored addr v s (s.hostWrite addr v) ∧
      { s.hostWrite addr v with mem := s.mem } = s ∧ (addr.toNat < 0x8000 → s.hostWrite addr v = s) ∧
      s.hostSetReg r v = s.setReg r v ∧ (s.hostSetReg r v).reg r = v ∧ RegsKept [r] s (s.hostSetReg r v) ∧
      (s.hostSetReg r v).f = s.f ∧ (s.hostSetReg r v).sp = s.sp ∧ (s.hostSetReg r v).pc = s.pc ∧
      ControlKept s (s.hostSetReg r v) ∧ (s.hostSetReg r v).mem = s.mem ∧
      (s.hostSetReg r v).cycles = s.cycles ∧
      s.hostSetF v = { s with f := v &&& 0xF0 } ∧
      s.hostSetSp w = { s with sp := w } ∧ s.hostSetPc w = { s with pc := w }

/-! ### The step -/

/-- 30_encoding.md R110: a step runs the instruction that the bytes at PC decode to, with PC past the whole
instruction, `ei_pending` and the halt-bug latch consumed, and EI's delayed enable at its end. The bytes after the
opcode are fetched at PC itself while the halt-bug latch is set. -/
def Obligations.StepRunsTheFetchedInstruction : Prop :=
  ∀ (s : State) (i : Instr) (rest : List Byte),
    let next : Word := if s.haltBug then s.pc else s.pc + 1
    s.Fetches → s.read s.pc ∉ unassignedBytes →
    decode [s.read s.pc, s.read next, s.read (next + 1)] = .ok (i, rest) →
      i.wf = true ∧
      ∃ t, exec i { s with
            pc := next + BitVec.ofNat 16 ((encode i).length - 1), eiPending := false, haltBug := false } = .next t ∧
        step s = .next (if s.eiPending = true ∧ i ≠ .di then { t with ime := true } else t)

/-- 30_encoding.md R115, 46_system.md R456, 60_exceptions.md R500: fetching an unassigned byte as an opcode ends the
step with `InvalidOpcode(pc, byte)`; its routine records the fault and changes nothing else. -/
def Obligations.UnassignedBytesRaiseInvalidOpcode : Prop :=
  (∀ (s : State), s.Fetches → s.read s.pc ∈ unassignedBytes →
    step s = .fault (.invalidOpcode s.pc (s.read s.pc))) ∧
  ∀ (s : State) (i : Instr) (op : Byte), (i, op) ∈ unassignedRows →
    encode i = [op] ∧ exec i s = .next { s with fault := some (.invalidOpcode s.pc op) }

/-- 60_exceptions.md R500, 30_encoding.md R113: the only fault a step can raise is InvalidOpcode of an unassigned byte
at PC, and a recorded fault is answered by every later step. The model's own choice (notes/assumptions/1.md,
70_reset_and_hazards.md R554): the only refusal is a core with no cartridge. -/
def Obligations.StepsStopOnlyOnInvalidOpcode : Prop :=
  ∀ (s : State),
    (∀ f, s.ramBanks ≠ none → s.fault = some f → step s = .fault f) ∧
    (∀ f, step s = .fault f → s.fault = some f ∨
      (s.fault = none ∧ f = .invalidOpcode s.pc (s.read s.pc) ∧ s.read s.pc ∈ unassignedBytes)) ∧
    (∀ r, step s = .refused r → r = .noCartridge ∧ s.ramBanks = none) ∧
    (s.ramBanks = none → step s = .refused .noCartridge)

/-- 60_exceptions.md R506, R507: while halted, a step fetches nothing and costs 4, and clears `halted` when an
interrupt is pending, whatever IME holds; while stopped, a step fetches nothing and costs 4, whatever IE, IF and IME
hold, and `wake_stop` clears `stopped` and changes nothing else. -/
def Obligations.SuspendedSteps : Prop :=
  (∀ (s : State), s.ramBanks ≠ none → s.fault = none → s.stopped = true →
    step s = .next { s with cycles := s.cycles + 4 }) ∧
  (∀ (s : State), s.ramBanks ≠ none → s.fault = none → s.stopped = false → s.halted = true →
    (pendingSet s = 0 → step s = .next { s with cycles := s.cycles + 4 }) ∧
      (pendingSet s ≠ 0 → step s = .next { s with halted := false, cycles := s.cycles + 4 })) ∧
  ∀ (s : State), s.wakeStop = { s with stopped := false }

/-- 60_exceptions.md R503 to R505: a step that finds an interrupt pending with IME = 1 dispatches it before any
opcode is fetched: PC (or the HALT before it, while the halt-bug latch is set) is pushed high byte first, the
pending set is read again after that byte, and the lowest source wins, its IF bit alone is cleared and PC is
0x0040 + 8 * n; or, when the push left nothing pending, PC is 0x0000. IME and both latches are cleared, and no
register, flag or other control bit changes. -/
def Obligations.InterruptDispatch : Prop :=
  ∀ (s : State), s.ramBanks ≠ none → s.fault = none → s.stopped = false → s.halted = false →
    s.ime = true → pendingSet s ≠ 0 →
      let ret : Word := if s.haltBug then s.pc - 1 else s.pc
      let high := s.write (s.sp - 1) (hiByte ret)
      let low := high.write (s.sp - 2) (loByte ret)
      ∃ t, step s = .next t ∧
        t.sp = s.sp - 2 ∧ t.ime = false ∧ t.eiPending = false ∧ t.haltBug = false ∧
        t.halted = false ∧ t.stopped = false ∧ t.fault = none ∧
        t.ramBanks = s.ramBanks ∧ t.haltBugMode = s.haltBugMode ∧
        RegsKept [] s t ∧ t.f = s.f ∧ t.cycles = s.cycles + 20 ∧
        (pendingSet high = 0 → t.pc = 0x0000 ∧ MemoryKept low t) ∧
        ∀ n : Fin 5, (pendingSet high).getLsbD n = true → (∀ m : Fin 5, m < n → (pendingSet high).getLsbD m = false) →
          t.pc.toNat = 0x0040 + 8 * n.val ∧
            Stored 0xFF0F (low.read 0xFF0F &&& ~~~(1#8 <<< n.val)) low t

/-- 46_system.md R453, 10_state.md R34, 30_encoding.md R110: EI itself only sets `ei_pending`; a step that runs an
instruction with `ei_pending` set ends with IME = 1 unless that instruction is DI (opcode 0xF3), and with
`ei_pending` set again only if that instruction is EI (opcode 0xFB). -/
def Obligations.EiTakesEffectAfterTheNextInstruction : Prop :=
  (∀ s : State, encode .ei = [0xFB] ∧ exec .ei s = .next { s with eiPending := true, cycles := s.cycles + 4 }) ∧
  ∀ (s t : State), s.Fetches → step s = .next t →
    (t.eiPending = true ↔ s.read s.pc = 0xFB) ∧
      (s.eiPending = true → (t.ime = true ↔ s.read s.pc ≠ 0xF3)) ∧
      (s.eiPending = false → s.read s.pc = 0xFB → t.ime = s.ime)

/-- 10_state.md R33: what can change IME. -/
def Obligations.ImeIsWrittenOnlyAsTheRuleSays : Prop :=
  ∀ (s t : State), step s = .next t → t.ime ≠ s.ime →
    (t.ime = true ∧ (s.eiPending = true ∨ s.read s.pc = 0xD9)) ∨
      (t.ime = false ∧ (pendingSet s ≠ 0 ∨ s.read s.pc = 0xF3))

/-- 10_state.md R37, 30_encoding.md R110, 46_system.md R455: while the halt-bug latch is set the opcode fetch does
not advance PC, so the byte at PC is both the opcode and the first byte after it; a 0xCB there runs SET 1,E. -/
def Obligations.HaltBugFetchesTheByteTwice : Prop :=
  ∀ (s : State), s.haltBug = true →
    s.fetched = decodeFetched (s.read s.pc) (s.read s.pc) (s.read (s.pc + 1)) ∧
      s.pcNext = s.pc + BitVec.ofNat 16 ((encode s.fetched).length - 1) ∧
      (s.read s.pc = 0xCB → s.fetched = .set_1_e)

/-- 70_reset_and_hazards.md R561, R562, 10_state.md R38: every step that completes adds between 4 and 24 cycles, a
multiple of 4. -/
def Obligations.EveryStepCostsWholeMachineCycles : Prop :=
  ∀ (s t : State), step s = .next t →
    ∃ k, 1 ≤ k ∧ k ≤ 6 ∧ t.cycles = s.cycles + 4 * k

/-- 00_scope.md R12, 60_exceptions.md R500: every routine of the table completes in every state, and but for the
eleven unassigned rows none records a fault. -/
def Obligations.EveryInstructionCompletes : Prop :=
  ∀ (i : Instr) (s : State), ∃ t, exec i s = .next t ∧
    (i ∉ unassignedRows.map Prod.fst → t.fault = s.fault)

/-! ### 8-bit loads -/

/-- 40_loads_8bit.md R150: LD r,r', all 49 rows `ld_b_b` to `ld_a_a`. -/
def Obligations.LdRegisterFromRegister : Prop :=
  ∀ (dst src : Reg8) (s : State),
    encode (rowLdRR dst src) = [byte (0x40 + 8 * code dst + code src)] ∧
      ∃ t, exec (rowLdRR dst src) s = .next t ∧
        t.reg dst = s.reg src ∧
        RegsKept [dst] s t ∧ t.f = s.f ∧ t.sp = s.sp ∧ t.pc = s.pc ∧ ControlKept s t ∧ MemoryKept s t ∧
        t.cycles = s.cycles + 4

/-- 40_loads_8bit.md R151: LD r,n, the seven rows `ld_b_n` to `ld_a_n`. -/
def Obligations.LdRegisterImmediate : Prop :=
  ∀ (dst : Reg8) (n : Byte) (s : State),
    encode (rowLdRN dst n) = [byte (0x06 + 8 * code dst), n] ∧
      ∃ t, exec (rowLdRN dst n) s = .next t ∧
        t.reg dst = n ∧
        RegsKept [dst] s t ∧ t.f = s.f ∧ t.sp = s.sp ∧ t.pc = s.pc ∧ ControlKept s t ∧ MemoryKept s t ∧
        t.cycles = s.cycles + 8

/-- 40_loads_8bit.md R152, R155, R156, R159, R161, R163: the loads from memory (`ld_b_mhl` to `ld_a_mhl`, `ld_a_mbc`,
`ld_a_mde`, `ld_a_mnn`, `ldh_a_mn`, `ldh_a_mc`). LD H,[HL] and LD L,[HL] read with the old HL. -/
def Obligations.LoadsFromMemory : Prop :=
  ∀ (s : State) (r : Reg8) (n : Byte) (nn : Word), ∀ form ∈ loadForms s r n nn,
    encode form.instr = form.bytes ∧
      ∃ t, exec form.instr s = .next t ∧
        t.reg form.dst = s.read form.addr ∧
        RegsKept [form.dst] s t ∧ t.f = s.f ∧ t.sp = s.sp ∧ t.pc = s.pc ∧ ControlKept s t ∧ MemoryKept s t ∧
        t.cycles = s.cycles + form.cost

/-- 40_loads_8bit.md R153, R154, R157, R158, R160, R162, R164: the stores to memory (`ld_mhl_b` to `ld_mhl_a`,
`ld_mhl_n`, `ld_mbc_a`, `ld_mde_a`, `ld_mnn_a`, `ldh_mn_a`, `ldh_mc_a`): every byte but the stored one reads as
before. -/
def Obligations.StoresToMemory : Prop :=
  ∀ (s : State) (r : Reg8) (n : Byte) (nn : Word), ∀ form ∈ storeForms s r n nn,
    encode form.instr = form.bytes ∧
      ∃ t, exec form.instr s = .next t ∧
        Stored form.addr form.value s t ∧
        RegsKept [] s t ∧ t.f = s.f ∧ t.sp = s.sp ∧ t.pc = s.pc ∧ ControlKept s t ∧
        t.cycles = s.cycles + form.cost

/-- 40_loads_8bit.md R165 to R168: LD A,[HL+], LD A,[HL-], LD [HL+],A and LD [HL-],A: the access is at the old HL,
and HL then moves by one modulo 65536, with no flag changed. -/
def Obligations.PostIndexedLoadsAndStores : Prop :=
  ∀ (s : State),
    (∀ row ∈ [(Instr.ld_a_mhli, (0x2A : Byte), (s.hl.toNat + 1) % 65536),
        (Instr.ld_a_mhld, 0x3A, (s.hl.toNat + 65535) % 65536)],
      encode row.1 = [row.2.1] ∧
        ∃ t, exec row.1 s = .next t ∧
          t.a = s.read s.hl ∧ t.hl.toNat = row.2.2 ∧
          RegsKept [.a, .h, .l] s t ∧ t.f = s.f ∧ t.sp = s.sp ∧ t.pc = s.pc ∧ ControlKept s t ∧ MemoryKept s t ∧
          t.cycles = s.cycles + 8) ∧
    (∀ row ∈ [(Instr.ld_mhli_a, (0x22 : Byte), (s.hl.toNat + 1) % 65536),
        (Instr.ld_mhld_a, 0x32, (s.hl.toNat + 65535) % 65536)],
      encode row.1 = [row.2.1] ∧
        ∃ t, exec row.1 s = .next t ∧
          Stored s.hl s.a s t ∧ t.hl.toNat = row.2.2 ∧
          RegsKept [.h, .l] s t ∧ t.f = s.f ∧ t.sp = s.sp ∧ t.pc = s.pc ∧ ControlKept s t ∧
          t.cycles = s.cycles + 8)

/-! ### 16-bit loads and the stack -/

/-- 41_loads_16bit.md R200 to R202: LD rr,nn (`ld_bc_nn`, `ld_de_nn`, `ld_hl_nn`, `ld_sp_nn`), LD SP,HL
(`ld_sp_hl`), and LD [nn],SP (`ld_mnn_sp`), which stores SP low byte first, its two bytes decoded separately. -/
def Obligations.SixteenBitLoads : Prop :=
  ∀ (s : State) (nn : Word),
    (∀ (row : Instr × Byte × Reg8 × Reg8), row ∈ [(.ld_bc_nn nn, 0x01, .b, .c), (.ld_de_nn nn, 0x11, .d, .e),
        (.ld_hl_nn nn, 0x21, .h, .l)] →
      encode row.1 = [row.2.1, byte (nn.toNat % 256), byte (nn.toNat / 256)] ∧
        ∃ t, exec row.1 s = .next t ∧
          (t.reg row.2.2.1).toNat = nn.toNat / 256 ∧ (t.reg row.2.2.2).toNat = nn.toNat % 256 ∧
          RegsKept [row.2.2.1, row.2.2.2] s t ∧ t.f = s.f ∧ t.sp = s.sp ∧ t.pc = s.pc ∧ ControlKept s t ∧
          MemoryKept s t ∧ t.cycles = s.cycles + 12) ∧
    (encode (.ld_sp_nn nn) = [0x31, byte (nn.toNat % 256), byte (nn.toNat / 256)] ∧
      exec (.ld_sp_nn nn) s = .next { s with sp := nn, cycles := s.cycles + 12 }) ∧
    (encode .ld_sp_hl = [0xF9] ∧
      exec .ld_sp_hl s = .next { s with sp := s.hl, cycles := s.cycles + 8 }) ∧
    encode (.ld_mnn_sp nn) = [0x08, byte (nn.toNat % 256), byte (nn.toNat / 256)] ∧
      ∃ t, exec (.ld_mnn_sp nn) s = .next t ∧
        StoredWord nn s.sp s t ∧
        RegsKept [] s t ∧ t.f = s.f ∧ t.sp = s.sp ∧ t.pc = s.pc ∧ ControlKept s t ∧ t.cycles = s.cycles + 20

/-- 41_loads_16bit.md R203: PUSH rr (`push_bc`, `push_de`, `push_hl`, `push_af`): the high register goes to SP - 1,
the low one to SP - 2, and SP drops by 2 modulo 65536. -/
def Obligations.PushStoresThePair : Prop :=
  ∀ (s : State) (row : Instr × StkPair × Byte × Byte),
    row ∈ [(.push_bc, .bc, s.b, s.c), (.push_de, .de, s.d, s.e), (.push_hl, .hl, s.h, s.l), (.push_af, .af, s.a, s.f)] →
      encode row.1 = [byte (0xC5 + 16 * stkCode row.2.1)] ∧
        ∃ t, exec row.1 s = .next t ∧
          StoredWord (s.sp - 2) (BitVec.ofNat 16 (row.2.2.1.toNat * 256 + row.2.2.2.toNat)) s t ∧
          t.sp = s.sp - 2 ∧
          RegsKept [] s t ∧ t.f = s.f ∧ t.pc = s.pc ∧ ControlKept s t ∧ t.cycles = s.cycles + 16

/-- 41_loads_16bit.md R204: POP rr (`pop_bc`, `pop_de`, `pop_hl`, `pop_af`): the low register from SP, the high one
from SP + 1, SP up by 2; POP AF writes F masked to its four high bits. -/
def Obligations.PopLoadsThePair : Prop :=
  ∀ (s : State),
    (∀ (row : Instr × StkPair × Reg8 × Reg8),
      row ∈ [(.pop_bc, .bc, .b, .c), (.pop_de, .de, .d, .e), (.pop_hl, .hl, .h, .l)] →
        encode row.1 = [byte (0xC1 + 16 * stkCode row.2.1)] ∧
          ∃ t, exec row.1 s = .next t ∧
            t.reg row.2.2.1 = s.read (s.sp + 1) ∧ t.reg row.2.2.2 = s.read s.sp ∧ t.sp = s.sp + 2 ∧
            RegsKept [row.2.2.1, row.2.2.2] s t ∧ t.f = s.f ∧ t.pc = s.pc ∧ ControlKept s t ∧ MemoryKept s t ∧
            t.cycles = s.cycles + 12) ∧
    encode .pop_af = [0xF1] ∧
      ∃ t, exec .pop_af s = .next t ∧
        t.a = s.read (s.sp + 1) ∧ t.f = s.read s.sp &&& 0xF0 ∧ t.sp = s.sp + 2 ∧
        RegsKept [.a] s t ∧ t.pc = s.pc ∧ ControlKept s t ∧ MemoryKept s t ∧ t.cycles = s.cycles + 12

/-- 43_alu_16bit.md R300, R304, 41_loads_16bit.md R205: ADD SP,e8 and LD HL,SP+e8: the signed sum modulo 65536, with
Z = N = 0 and the carries of the unsigned low-byte addition whatever the sign. -/
def Obligations.SpPlusSignedOffset : Prop :=
  ∀ (s : State) (e : Byte),
    (encode (.add_sp_e8 e) = [0xE8, e] ∧
      ∃ t, exec (.add_sp_e8 e) s = .next t ∧
        (t.sp.toNat : Int) = ((s.sp.toNat : Int) + e.toInt) % 65536 ∧
        FlagsAre t false false (decide (s.sp.toNat % 16 + e.toNat % 16 > 15))
          (decide (s.sp.toNat % 256 + e.toNat > 255)) ∧
        RegsKept [] s t ∧ t.pc = s.pc ∧ ControlKept s t ∧ MemoryKept s t ∧ t.cycles = s.cycles + 16) ∧
    encode (.ld_hl_sp_e8 e) = [0xF8, e] ∧
      ∃ t, exec (.ld_hl_sp_e8 e) s = .next t ∧
        (t.hl.toNat : Int) = ((s.sp.toNat : Int) + e.toInt) % 65536 ∧
        FlagsAre t false false (decide (s.sp.toNat % 16 + e.toNat % 16 > 15))
          (decide (s.sp.toNat % 256 + e.toNat > 255)) ∧
        RegsKept [.h, .l] s t ∧ t.sp = s.sp ∧ t.pc = s.pc ∧ ControlKept s t ∧ MemoryKept s t ∧
        t.cycles = s.cycles + 12

/-! ### 8-bit arithmetic and logic -/

/-- 42_alu_8bit.md R250, R251, R260 to R265: ADD and ADC in their register, [HL] and immediate forms (`add_a_b` to
`add_a_a`, `add_a_mhl`, `add_a_n`, and the same nine of `adc`). -/
def Obligations.AddAndAddWithCarry : Prop :=
  ∀ (s : State) (r : Reg8) (n : Byte),
    (∀ form ∈ aluForms .add s r n,
      let a := s.a.toNat
      let b := form.operand.toNat
      RunsOnA form s ((a + b) % 256) false (decide (a % 16 + b % 16 > 15)) (decide (a + b > 255))) ∧
    ∀ form ∈ aluForms .adc s r n,
      let a := s.a.toNat
      let b := form.operand.toNat
      let c := s.flagC.toNat
      RunsOnA form s ((a + b + c) % 256) false (decide (a % 16 + b % 16 + c > 15)) (decide (a + b + c > 255))

/-- 42_alu_8bit.md R252, R253, R266 to R271: SUB and SBC in their register, [HL] and immediate forms (`sub_b` to
`sub_a`, `sub_mhl`, `sub_n`, and the same nine of `sbc_a`): H and C are borrows. -/
def Obligations.SubtractAndSubtractWithBorrow : Prop :=
  ∀ (s : State) (r : Reg8) (n : Byte),
    (∀ form ∈ aluForms .sub s r n,
      let a := s.a.toNat
      let b := form.operand.toNat
      RunsOnA form s ((a + 256 - b) % 256) true (decide (a % 16 < b % 16)) (decide (a < b))) ∧
    ∀ form ∈ aluForms .sbc s r n,
      let a := s.a.toNat
      let b := form.operand.toNat
      let c := s.flagC.toNat
      RunsOnA form s ((a + 512 - b - c) % 256) true (decide (a % 16 < b % 16 + c)) (decide (a < b + c))

/-- 42_alu_8bit.md R254 to R256, R272 to R280: AND, XOR and OR in their three forms (`and_b` to `and_n`, `xor_b` to
`xor_n`, `or_b` to `or_n`). -/
def Obligations.BitwiseLogic : Prop :=
  ∀ (s : State) (r : Reg8) (n : Byte),
    (∀ form ∈ aluForms .and s r n, RunsOnA form s (s.a &&& form.operand).toNat false true false) ∧
      (∀ form ∈ aluForms .xor s r n, RunsOnA form s (s.a ^^^ form.operand).toNat false false false) ∧
      ∀ form ∈ aluForms .or s r n, RunsOnA form s (s.a ||| form.operand).toNat false false false

/-- 42_alu_8bit.md R281 to R283: CP in its three forms (`cp_b` to `cp_a`, `cp_mhl`, `cp_n`): the flags of SUB, and A
is not written. -/
def Obligations.CompareWritesOnlyFlags : Prop :=
  ∀ (s : State) (r : Reg8) (n : Byte), ∀ form ∈ aluForms .cp s r n,
    encode form.instr = form.bytes ∧
      ∃ t, exec form.instr s = .next t ∧
        FlagsAre t (decide (s.a = form.operand)) true (decide (s.a.toNat % 16 < form.operand.toNat % 16))
          (decide (s.a.toNat < form.operand.toNat)) ∧
        RegsKept [] s t ∧ t.sp = s.sp ∧ t.pc = s.pc ∧ ControlKept s t ∧ MemoryKept s t ∧
        t.cycles = s.cycles + form.cost

/-- 42_alu_8bit.md R257, R284, R286: INC r and DEC r (`inc_b` to `inc_a`, `dec_b` to `dec_a`): the value wraps, C is
unchanged. -/
def Obligations.IncAndDecRegister : Prop :=
  ∀ (s : State) (r : Reg8),
    (encode (rowIncR r) = [byte (0x04 + 8 * code r)] ∧
      ∃ t, exec (rowIncR r) s = .next t ∧
        (t.reg r).toNat = ((s.reg r).toNat + 1) % 256 ∧
        FlagsAre t (decide ((s.reg r).toNat = 255)) false (decide ((s.reg r).toNat % 16 = 15)) s.flagC ∧
        RegsKept [r] s t ∧ t.sp = s.sp ∧ t.pc = s.pc ∧ ControlKept s t ∧ MemoryKept s t ∧ t.cycles = s.cycles + 4) ∧
    encode (rowDecR r) = [byte (0x05 + 8 * code r)] ∧
      ∃ t, exec (rowDecR r) s = .next t ∧
        (t.reg r).toNat = ((s.reg r).toNat + 255) % 256 ∧
        FlagsAre t (decide ((s.reg r).toNat = 1)) true (decide ((s.reg r).toNat % 16 = 0)) s.flagC ∧
        RegsKept [r] s t ∧ t.sp = s.sp ∧ t.pc = s.pc ∧ ControlKept s t ∧ MemoryKept s t ∧ t.cycles = s.cycles + 4

/-- 42_alu_8bit.md R285, R287: INC [HL] and DEC [HL]: the flags are those of the byte read even when the write-back
does not land. -/
def Obligations.IncAndDecMemory : Prop :=
  ∀ (s : State),
    let v := (s.read s.hl).toNat
    (encode .inc_mhl = [0x34] ∧
      ∃ t, exec .inc_mhl s = .next t ∧
        Stored s.hl (byte ((v + 1) % 256)) s t ∧
        FlagsAre t (decide (v = 255)) false (decide (v % 16 = 15)) s.flagC ∧
        RegsKept [] s t ∧ t.sp = s.sp ∧ t.pc = s.pc ∧ ControlKept s t ∧ t.cycles = s.cycles + 12) ∧
    encode .dec_mhl = [0x35] ∧
      ∃ t, exec .dec_mhl s = .next t ∧
        Stored s.hl (byte ((v + 255) % 256)) s t ∧
        FlagsAre t (decide (v = 1)) true (decide (v % 16 = 0)) s.flagC ∧
        RegsKept [] s t ∧ t.sp = s.sp ∧ t.pc = s.pc ∧ ControlKept s t ∧ t.cycles = s.cycles + 12

/-- 42_alu_8bit.md R288: DAA, for every A and every flag combination. -/
def Obligations.DecimalAdjust : Prop :=
  ∀ (s : State),
    let a := s.a.toNat
    let high := s.flagC = true ∨ a > 0x99
    let low := s.flagH = true ∨ a % 16 > 9
    encode .daa = [0x27] ∧
      ∃ t, exec .daa s = .next t ∧
        (s.flagN = false → high → low → t.a.toNat = (a + 0x66) % 256) ∧
        (s.flagN = false → high → ¬low → t.a.toNat = (a + 0x60) % 256) ∧
        (s.flagN = false → ¬high → low → t.a.toNat = (a + 0x06) % 256) ∧
        (s.flagN = false → ¬high → ¬low → t.a.toNat = a) ∧
        (s.flagN = true → t.a.toNat = (a + 512 - 0x60 * s.flagC.toNat - 0x06 * s.flagH.toNat) % 256) ∧
        (s.flagN = false → (t.flagC = true ↔ high)) ∧ (s.flagN = true → t.flagC = s.flagC) ∧
        t.flagZ = decide (t.a = 0) ∧ t.flagN = s.flagN ∧ t.flagH = false ∧ t.f &&& 0x0F = 0 ∧
        RegsKept [.a] s t ∧ t.sp = s.sp ∧ t.pc = s.pc ∧ ControlKept s t ∧ MemoryKept s t ∧ t.cycles = s.cycles + 4

/-- 42_alu_8bit.md R289 to R291: CPL, SCF and CCF. -/
def Obligations.ComplementAndCarryFlag : Prop :=
  ∀ (s : State),
    (encode .cpl = [0x2F] ∧
      ∃ t, exec .cpl s = .next t ∧
        t.a.toNat = 255 - s.a.toNat ∧ FlagsAre t s.flagZ true true s.flagC ∧
        RegsKept [.a] s t ∧ t.sp = s.sp ∧ t.pc = s.pc ∧ ControlKept s t ∧ MemoryKept s t ∧ t.cycles = s.cycles + 4) ∧
    (encode .scf = [0x37] ∧
      ∃ t, exec .scf s = .next t ∧
        FlagsAre t s.flagZ false false true ∧
        RegsKept [] s t ∧ t.sp = s.sp ∧ t.pc = s.pc ∧ ControlKept s t ∧ MemoryKept s t ∧ t.cycles = s.cycles + 4) ∧
    encode .ccf = [0x3F] ∧
      ∃ t, exec .ccf s = .next t ∧
        FlagsAre t s.flagZ false false (!s.flagC) ∧
        RegsKept [] s t ∧ t.sp = s.sp ∧ t.pc = s.pc ∧ ControlKept s t ∧ MemoryKept s t ∧ t.cycles = s.cycles + 4

/-! ### 16-bit arithmetic -/

/-- 43_alu_16bit.md R301: ADD HL,rr (`add_hl_bc`, `add_hl_de`, `add_hl_hl`, `add_hl_sp`): Carry past bit 15,
Half-Carry past bit 11, Z unaffected. -/
def Obligations.AddPairToHl : Prop :=
  ∀ (s : State) (p : Pair),
    let x := s.hl.toNat
    let y := (s.pair p).toNat
    encode (rowAddHl p) = [byte (0x09 + 16 * pairCode p)] ∧
      ∃ t, exec (rowAddHl p) s = .next t ∧
        t.hl.toNat = (x + y) % 65536 ∧
        FlagsAre t s.flagZ false (decide (x % 4096 + y % 4096 > 4095)) (decide (x + y > 65535)) ∧
        RegsKept [.h, .l] s t ∧ t.sp = s.sp ∧ t.pc = s.pc ∧ ControlKept s t ∧ MemoryKept s t ∧
        t.cycles = s.cycles + 8

/-- 43_alu_16bit.md R302, R303: INC rr and DEC rr (`inc_bc` to `inc_sp`, `dec_bc` to `dec_sp`): modulo 65536, "no
flags are affected". -/
def Obligations.IncAndDecPair : Prop :=
  ∀ (s : State) (p : Pair),
    let changed : List Reg8 := match p with | .bc => [.b, .c] | .de => [.d, .e] | .hl => [.h, .l] | .sp => []
    (encode (rowIncPair p) = [byte (0x03 + 16 * pairCode p)] ∧
      ∃ t, exec (rowIncPair p) s = .next t ∧
        (t.pair p).toNat = ((s.pair p).toNat + 1) % 65536 ∧
        RegsKept changed s t ∧ (p ≠ .sp → t.sp = s.sp) ∧ t.f = s.f ∧ t.pc = s.pc ∧ ControlKept s t ∧
        MemoryKept s t ∧ t.cycles = s.cycles + 8) ∧
    encode (rowDecPair p) = [byte (0x0B + 16 * pairCode p)] ∧
      ∃ t, exec (rowDecPair p) s = .next t ∧
        (t.pair p).toNat = ((s.pair p).toNat + 65535) % 65536 ∧
        RegsKept changed s t ∧ (p ≠ .sp → t.sp = s.sp) ∧ t.f = s.f ∧ t.pc = s.pc ∧ ControlKept s t ∧
        MemoryKept s t ∧ t.cycles = s.cycles + 8

/-! ### Rotates, shifts and bits -/

/-- 44_rotate_shift_bit.md R351 to R354: RLCA, RRCA, RLA and RRA: the rotate of A with Z, N and H cleared. -/
def Obligations.AccumulatorRotates : Prop :=
  ∀ (s : State) (row : Instr × Byte × ShiftOp),
    row ∈ [(.rlca, 0x07, .rlc), (.rrca, 0x0F, .rrc), (.rla, 0x17, .rl), (.rra, 0x1F, .rr)] →
      let out := shiftTable row.2.2 s.a.toNat s.flagC.toNat
      encode row.1 = [row.2.1] ∧
        ∃ t, exec row.1 s = .next t ∧
          t.a.toNat = out.1 ∧ FlagsAre t false false false (decide (out.2 = 1)) ∧
          RegsKept [.a] s t ∧ t.sp = s.sp ∧ t.pc = s.pc ∧ ControlKept s t ∧ MemoryKept s t ∧
          t.cycles = s.cycles + 4

/-- 44_rotate_shift_bit.md R350 and the register forms R355, R357, ..., R369 (`rlc_b` to `srl_a`, 56 rows): Z from the
result. -/
def Obligations.ShiftsOfARegister : Prop :=
  ∀ (s : State) (op : ShiftOp) (r : Reg8),
    let out := shiftTable op (s.reg r).toNat s.flagC.toNat
    encode (rowShiftR op r) = [0xCB, byte (8 * shiftCode op + code r)] ∧
      ∃ t, exec (rowShiftR op r) s = .next t ∧
        (t.reg r).toNat = out.1 ∧ FlagsAre t (decide (out.1 = 0)) false false (decide (out.2 = 1)) ∧
        RegsKept [r] s t ∧ t.sp = s.sp ∧ t.pc = s.pc ∧ ControlKept s t ∧ MemoryKept s t ∧
        t.cycles = s.cycles + 8

/-- 44_rotate_shift_bit.md R350 and the `[HL]` forms R356, R358, ..., R370 (`rlc_mhl` to `srl_mhl`): the flags are
those of the byte read even when the write-back does not land. -/
def Obligations.ShiftsOfMemory : Prop :=
  ∀ (s : State) (op : ShiftOp),
    let out := shiftTable op (s.read s.hl).toNat s.flagC.toNat
    encode (rowShiftHl op) = [0xCB, byte (8 * shiftCode op + 6)] ∧
      ∃ t, exec (rowShiftHl op) s = .next t ∧
        Stored s.hl (byte out.1) s t ∧ FlagsAre t (decide (out.1 = 0)) false false (decide (out.2 = 1)) ∧
        RegsKept [] s t ∧ t.sp = s.sp ∧ t.pc = s.pc ∧ ControlKept s t ∧ t.cycles = s.cycles + 16

/-- 44_rotate_shift_bit.md R371, R372: BIT b,r and BIT b,[HL] (`bit_0_b` to `bit_7_a`, 64 rows): Z is the complement
of the bit, N = 0, H = 1, C unchanged, and the operand is not written. -/
def Obligations.BitTests : Prop :=
  ∀ (s : State) (b : Fin 8) (r : Reg8),
    (encode (rowBitR b r) = [0xCB, byte (0x40 + 8 * b.val + code r)] ∧
      ∃ t, exec (rowBitR b r) s = .next t ∧
        FlagsAre t (decide ((s.reg r).toNat / 2 ^ b.val % 2 = 0)) false true s.flagC ∧
        RegsKept [] s t ∧ t.sp = s.sp ∧ t.pc = s.pc ∧ ControlKept s t ∧ MemoryKept s t ∧ t.cycles = s.cycles + 8) ∧
    encode (rowBitHl b) = [0xCB, byte (0x46 + 8 * b.val)] ∧
      ∃ t, exec (rowBitHl b) s = .next t ∧
        FlagsAre t (decide ((s.read s.hl).toNat / 2 ^ b.val % 2 = 0)) false true s.flagC ∧
        RegsKept [] s t ∧ t.sp = s.sp ∧ t.pc = s.pc ∧ ControlKept s t ∧ MemoryKept s t ∧ t.cycles = s.cycles + 12

/-- 44_rotate_shift_bit.md R373, R375: RES b,r and SET b,r (`res_0_b` to `res_7_a` and `set_0_b` to `set_7_a`, the
register rows): the one bit, no flag. -/
def Obligations.BitWritesOfARegister : Prop :=
  ∀ (s : State) (b : Fin 8) (r : Reg8),
    (encode (rowResR b r) = [0xCB, byte (0x80 + 8 * b.val + code r)] ∧
      ∃ t, exec (rowResR b r) s = .next t ∧
        (∀ k : Fin 8, (t.reg r).getLsbD k = if k = b then false else (s.reg r).getLsbD k) ∧
        RegsKept [r] s t ∧ t.f = s.f ∧ t.sp = s.sp ∧ t.pc = s.pc ∧ ControlKept s t ∧ MemoryKept s t ∧
        t.cycles = s.cycles + 8) ∧
    encode (rowSetR b r) = [0xCB, byte (0xC0 + 8 * b.val + code r)] ∧
      ∃ t, exec (rowSetR b r) s = .next t ∧
        (∀ k : Fin 8, (t.reg r).getLsbD k = if k = b then true else (s.reg r).getLsbD k) ∧
        RegsKept [r] s t ∧ t.f = s.f ∧ t.sp = s.sp ∧ t.pc = s.pc ∧ ControlKept s t ∧ MemoryKept s t ∧
        t.cycles = s.cycles + 8

/-- 44_rotate_shift_bit.md R374, R376: RES b,[HL] and SET b,[HL] (`res_0_mhl` to `res_7_mhl`, `set_0_mhl` to
`set_7_mhl`): the byte stored back differs from the byte read in the one bit, and no flag changes. -/
def Obligations.BitWritesOfMemory : Prop :=
  ∀ (s : State) (b : Fin 8) (v : Byte),
    ((∀ k : Fin 8, v.getLsbD k = if k = b then false else (s.read s.hl).getLsbD k) →
      encode (rowResHl b) = [0xCB, byte (0x86 + 8 * b.val)] ∧
        ∃ t, exec (rowResHl b) s = .next t ∧
          Stored s.hl v s t ∧
          RegsKept [] s t ∧ t.f = s.f ∧ t.sp = s.sp ∧ t.pc = s.pc ∧ ControlKept s t ∧ t.cycles = s.cycles + 16) ∧
    ((∀ k : Fin 8, v.getLsbD k = if k = b then true else (s.read s.hl).getLsbD k) →
      encode (rowSetHl b) = [0xCB, byte (0xC6 + 8 * b.val)] ∧
        ∃ t, exec (rowSetHl b) s = .next t ∧
          Stored s.hl v s t ∧
          RegsKept [] s t ∧ t.f = s.f ∧ t.sp = s.sp ∧ t.pc = s.pc ∧ ControlKept s t ∧ t.cycles = s.cycles + 16)

/-! ### Control transfer -/

/-- 45_control.md R400, R402, R403: JP nn, JP HL and JR e8, whose displacement is signed and taken from PCnext. -/
def Obligations.UnconditionalJumps : Prop :=
  ∀ (s : State) (nn : Word) (e : Byte),
    (encode (.jp_nn nn) = [0xC3, byte (nn.toNat % 256), byte (nn.toNat / 256)] ∧
      exec (.jp_nn nn) s = .next { s with pc := nn, cycles := s.cycles + 16 }) ∧
    (encode .jp_hl = [0xE9] ∧ exec .jp_hl s = .next { s with pc := s.hl, cycles := s.cycles + 4 }) ∧
    encode (.jr_e8 e) = [0x18, e] ∧
      ∃ target : Word, (target.toNat : Int) = ((s.pc.toNat : Int) + e.toInt) % 65536 ∧
        exec (.jr_e8 e) s = .next { s with pc := target, cycles := s.cycles + 12 }

/-- 45_control.md R401, R404: JP cc,nn and JR cc,e8 (`jp_nz_nn` to `jp_c_nn`, `jr_nz_e8` to `jr_c_e8`): taken and not
taken. -/
def Obligations.ConditionalJumps : Prop :=
  ∀ (s : State) (cc : Cond) (nn : Word) (e : Byte),
    encode (rowJpCc cc nn) = [byte (0xC2 + 8 * ccCode cc), byte (nn.toNat % 256), byte (nn.toNat / 256)] ∧
      (Holds cc s → exec (rowJpCc cc nn) s = .next { s with pc := nn, cycles := s.cycles + 16 }) ∧
      (¬Holds cc s → exec (rowJpCc cc nn) s = .next { s with cycles := s.cycles + 12 }) ∧
      encode (rowJrCc cc e) = [byte (0x20 + 8 * ccCode cc), e] ∧
      (Holds cc s → ∃ target : Word, (target.toNat : Int) = ((s.pc.toNat : Int) + e.toInt) % 65536 ∧
        exec (rowJrCc cc e) s = .next { s with pc := target, cycles := s.cycles + 12 }) ∧
      (¬Holds cc s → exec (rowJrCc cc e) s = .next { s with cycles := s.cycles + 8 })

/-- 45_control.md R405, R406, R410: CALL nn, CALL cc,nn (`call_nz_nn` to `call_c_nn`) and RST t (`rst_0x00` to
`rst_0x38`): PCnext is pushed and PC is the target; a call not taken changes nothing but the cycle counter. -/
def Obligations.CallsPushTheReturnAddress : Prop :=
  ∀ (s : State) (cc : Cond) (nn : Word) (y : Fin 8),
    (∀ (row : Instr × List Byte × Word),
      row ∈ [(.call_nn nn, [0xCD, byte (nn.toNat % 256), byte (nn.toNat / 256)], nn),
          (rowCallCc cc nn, [byte (0xC4 + 8 * ccCode cc), byte (nn.toNat % 256), byte (nn.toNat / 256)], nn),
          (rowRst y, [byte (0xC7 + 8 * y.val)], BitVec.ofNat 16 (8 * y.val))] →
        encode row.1 = row.2.1 ∧
          ((row.1 = rowCallCc cc nn → Holds cc s) →
            ∃ t, exec row.1 s = .next t ∧
              StoredWord (s.sp - 2) s.pc s t ∧ t.sp = s.sp - 2 ∧ t.pc = row.2.2 ∧
              RegsKept [] s t ∧ t.f = s.f ∧ ControlKept s t ∧
              t.cycles = s.cycles + (if row.1 = rowRst y then 16 else 24))) ∧
    (¬Holds cc s → exec (rowCallCc cc nn) s = .next { s with cycles := s.cycles + 12 })

/-- 45_control.md R407 to R409: RET, RET cc (`ret_nz` to `ret_c`) and RETI: PC is popped, low byte at SP; RETI also
sets IME at once. -/
def Obligations.ReturnsPopThePc : Prop :=
  ∀ (s : State) (cc : Cond) (target : Word),
    target.toNat = (s.read (s.sp + 1)).toNat * 256 + (s.read s.sp).toNat →
      (encode .ret = [0xC9] ∧
        exec .ret s = .next { s with pc := target, sp := s.sp + 2, cycles := s.cycles + 16 }) ∧
      (encode .reti = [0xD9] ∧
        exec .reti s = .next { s with pc := target, sp := s.sp + 2, ime := true, cycles := s.cycles + 16 }) ∧
      encode (rowRetCc cc) = [byte (0xC0 + 8 * ccCode cc)] ∧
      (Holds cc s →
        exec (rowRetCc cc) s = .next { s with pc := target, sp := s.sp + 2, cycles := s.cycles + 20 }) ∧
      (¬Holds cc s → exec (rowRetCc cc) s = .next { s with cycles := s.cycles + 8 })

/-! ### System -/

/-- 46_system.md R450, R454, R452: NOP, DI and STOP, whose second byte is ignored. -/
def Obligations.NopDiAndStop : Prop :=
  ∀ (s : State) (n : Byte),
    (encode .nop = [0x00] ∧ exec .nop s = .next { s with cycles := s.cycles + 4 }) ∧
    (encode .di = [0xF3] ∧ exec .di s = .next { s with ime := false, cycles := s.cycles + 4 }) ∧
    encode (.stop n) = [0x10, n] ∧
      exec (.stop n) s = .next { s with stopped := true, cycles := s.cycles + 4 }

/-- 46_system.md R451: HALT halts, unless IME = 0 with an interrupt pending: then the core does not halt, and the
halt-bug latch is set when `HALT_BUG = true`. -/
def Obligations.HaltCases : Prop :=
  ∀ (s : State), encode .halt = [0x76] ∧
    (s.ime = true ∨ pendingSet s = 0 →
      exec .halt s = .next { s with halted := true, cycles := s.cycles + 4 }) ∧
    (s.ime = false → pendingSet s ≠ 0 → s.haltBugMode = true →
      exec .halt s = .next { s with haltBug := true, cycles := s.cycles + 4 }) ∧
    (s.ime = false → pendingSet s ≠ 0 → s.haltBugMode = false →
      exec .halt s = .next { s with cycles := s.cycles + 4 })
end

