-- ==== Sys2Proof/Laws/Codec.lean ====
section
/-! SUPPORT. The endian codec and the extensions in numbers. -/

namespace Sys2Proof

theorem pack_toNat (high low : Byte) : (pack high low).toNat = high.toNat * 256 + low.toNat := by
  rw [pack, BitVec.toNat_append, Nat.shiftLeft_eq, Nat.mul_comm high.toNat (2 ^ 8),
    ← Nat.two_pow_add_eq_or_of_lt low.isLt, Nat.mul_comm]

theorem hiByte_toNat (w : Word) : (hiByte w).toNat = w.toNat / 256 := by
  have := w.isLt
  simp [hiByte, BitVec.extractLsb'_toNat, Nat.shiftRight_eq_div_pow]
  omega

theorem loByte_toNat (w : Word) : (loByte w).toNat = w.toNat % 256 := by
  simp [loByte, BitVec.extractLsb'_toNat]

/-- `unpack(pack(h,l)) == (h,l)` (00_scope.md R7), the high byte. -/
@[simp] theorem hiByte_pack (high low : Byte) : hiByte (pack high low) = high := by
  apply BitVec.eq_of_toNat_eq
  have := low.isLt
  rw [hiByte_toNat, pack_toNat]
  omega

/-- `unpack(pack(h,l)) == (h,l)` (00_scope.md R7), the low byte. -/
@[simp] theorem loByte_pack (high low : Byte) : loByte (pack high low) = low := by
  apply BitVec.eq_of_toNat_eq
  have := low.isLt
  rw [loByte_toNat, pack_toNat]
  omega

@[simp] theorem pack_hiByte_loByte (w : Word) : pack (hiByte w) (loByte w) = w := by
  apply BitVec.eq_of_toNat_eq
  rw [pack_toNat, hiByte_toNat, loByte_toNat]
  omega

theorem zext16_toNat (v : Byte) : (zext16 v).toNat = v.toNat := by
  have := v.isLt
  rw [zext16, BitVec.toNat_setWidth]
  omega

/-- Adding an extended displacement is adding it as a signed number, modulo 65536 (30_encoding.md R103). -/
theorem add_sext16_toNat (w : Word) (v : Byte) :
    ((w + sext16 v).toNat : Int) = ((w.toNat : Int) + v.toInt) % 65536 := by
  have h : (sext16 v).toInt = v.toInt := by simp [sext16, BitVec.toInt_signExtend_of_le]
  have hw := w.isLt
  have hs := (sext16 v).isLt
  rw [BitVec.toInt_eq_toNat_cond] at h
  rw [BitVec.toNat_add, ← h]
  split <;> omega

end Sys2Proof
end

