-- ==== Sys2Proof/Laws/State.lean ====
section
/-! SUPPORT. One lemma per field per update, so that no proof unfolds a record update. -/

namespace Sys2Proof.Machine

variable (s : State)

/-! ### setReg -/

@[simp] theorem setReg_reg (r : Reg8) (v : Byte) : (s.setReg r v).reg r = v := by cases r <;> rfl
@[simp] theorem setReg_reg_ne (r q : Reg8) (v : Byte) (h : q ≠ r) : (s.setReg r v).reg q = s.reg q :=
  by
  cases r <;> cases q <;> first | rfl | exact absurd rfl h
@[simp] theorem setReg_f (r : Reg8) (v : Byte) : (s.setReg r v).f = s.f := by cases r <;> rfl
@[simp] theorem setReg_sp (r : Reg8) (v : Byte) : (s.setReg r v).sp = s.sp := by cases r <;> rfl
@[simp] theorem setReg_pc (r : Reg8) (v : Byte) : (s.setReg r v).pc = s.pc := by cases r <;> rfl
@[simp] theorem setReg_ime (r : Reg8) (v : Byte) : (s.setReg r v).ime = s.ime := by cases r <;> rfl
@[simp] theorem setReg_eiPending (r : Reg8) (v : Byte) : (s.setReg r v).eiPending = s.eiPending :=
  by cases r <;> rfl
@[simp] theorem setReg_halted (r : Reg8) (v : Byte) : (s.setReg r v).halted = s.halted := by cases r <;> rfl
@[simp] theorem setReg_stopped (r : Reg8) (v : Byte) : (s.setReg r v).stopped = s.stopped := by cases r <;> rfl
@[simp] theorem setReg_haltBug (r : Reg8) (v : Byte) : (s.setReg r v).haltBug = s.haltBug := by cases r <;> rfl
@[simp] theorem setReg_cycles (r : Reg8) (v : Byte) : (s.setReg r v).cycles = s.cycles := by cases r <;> rfl
@[simp] theorem setReg_fault (r : Reg8) (v : Byte) : (s.setReg r v).fault = s.fault := by cases r <;> rfl
@[simp] theorem setReg_mem (r : Reg8) (v : Byte) : (s.setReg r v).mem = s.mem := by cases r <;> rfl
@[simp] theorem setReg_ramBanks (r : Reg8) (v : Byte) : (s.setReg r v).ramBanks = s.ramBanks := by cases r <;> rfl
@[simp] theorem setReg_haltBugMode (r : Reg8) (v : Byte) : (s.setReg r v).haltBugMode = s.haltBugMode :=
  by cases r <;> rfl

/-! ### The registers by name -/

@[simp] theorem reg_a : s.reg .a = s.a := rfl
@[simp] theorem reg_b : s.reg .b = s.b := rfl
@[simp] theorem reg_c : s.reg .c = s.c := rfl
@[simp] theorem reg_d : s.reg .d = s.d := rfl
@[simp] theorem reg_e : s.reg .e = s.e := rfl
@[simp] theorem reg_h : s.reg .h = s.h := rfl
@[simp] theorem reg_l : s.reg .l = s.l := rfl

/-! ### setF -/

@[simp] theorem setF_a (v : Byte) : (s.setF v).a = s.a := rfl
@[simp] theorem setF_f (v : Byte) : (s.setF v).f = v &&& 0xF0 := rfl
@[simp] theorem setF_b (v : Byte) : (s.setF v).b = s.b := rfl
@[simp] theorem setF_c (v : Byte) : (s.setF v).c = s.c := rfl
@[simp] theorem setF_d (v : Byte) : (s.setF v).d = s.d := rfl
@[simp] theorem setF_e (v : Byte) : (s.setF v).e = s.e := rfl
@[simp] theorem setF_h (v : Byte) : (s.setF v).h = s.h := rfl
@[simp] theorem setF_l (v : Byte) : (s.setF v).l = s.l := rfl
@[simp] theorem setF_sp (v : Byte) : (s.setF v).sp = s.sp := rfl
@[simp] theorem setF_pc (v : Byte) : (s.setF v).pc = s.pc := rfl
@[simp] theorem setF_ime (v : Byte) : (s.setF v).ime = s.ime := rfl
@[simp] theorem setF_eiPending (v : Byte) : (s.setF v).eiPending = s.eiPending := rfl
@[simp] theorem setF_halted (v : Byte) : (s.setF v).halted = s.halted := rfl
@[simp] theorem setF_stopped (v : Byte) : (s.setF v).stopped = s.stopped := rfl
@[simp] theorem setF_haltBug (v : Byte) : (s.setF v).haltBug = s.haltBug := rfl
@[simp] theorem setF_cycles (v : Byte) : (s.setF v).cycles = s.cycles := rfl
@[simp] theorem setF_fault (v : Byte) : (s.setF v).fault = s.fault := rfl
@[simp] theorem setF_mem (v : Byte) : (s.setF v).mem = s.mem := rfl
@[simp] theorem setF_ramBanks (v : Byte) : (s.setF v).ramBanks = s.ramBanks := rfl
@[simp] theorem setF_haltBugMode (v : Byte) : (s.setF v).haltBugMode = s.haltBugMode := rfl
@[simp] theorem setF_reg (v : Byte) (r : Reg8) : (s.setF v).reg r = s.reg r := by cases r <;> rfl

/-! ### setFlags -/

@[simp] theorem setFlags_a (z n h c : Bool) : (s.setFlags z n h c).a = s.a := rfl
@[simp] theorem setFlags_f (z n h c : Bool) : (s.setFlags z n h c).f = packFlags z n h c &&& 0xF0 := rfl
@[simp] theorem setFlags_b (z n h c : Bool) : (s.setFlags z n h c).b = s.b := rfl
@[simp] theorem setFlags_c (z n h c : Bool) : (s.setFlags z n h c).c = s.c := rfl
@[simp] theorem setFlags_d (z n h c : Bool) : (s.setFlags z n h c).d = s.d := rfl
@[simp] theorem setFlags_e (z n h c : Bool) : (s.setFlags z n h c).e = s.e := rfl
@[simp] theorem setFlags_h (z n h c : Bool) : (s.setFlags z n h c).h = s.h := rfl
@[simp] theorem setFlags_l (z n h c : Bool) : (s.setFlags z n h c).l = s.l := rfl
@[simp] theorem setFlags_sp (z n h c : Bool) : (s.setFlags z n h c).sp = s.sp := rfl
@[simp] theorem setFlags_pc (z n h c : Bool) : (s.setFlags z n h c).pc = s.pc := rfl
@[simp] theorem setFlags_ime (z n h c : Bool) : (s.setFlags z n h c).ime = s.ime := rfl
@[simp] theorem setFlags_eiPending (z n h c : Bool) : (s.setFlags z n h c).eiPending = s.eiPending := rfl
@[simp] theorem setFlags_halted (z n h c : Bool) : (s.setFlags z n h c).halted = s.halted := rfl
@[simp] theorem setFlags_stopped (z n h c : Bool) : (s.setFlags z n h c).stopped = s.stopped := rfl
@[simp] theorem setFlags_haltBug (z n h c : Bool) : (s.setFlags z n h c).haltBug = s.haltBug := rfl
@[simp] theorem setFlags_cycles (z n h c : Bool) : (s.setFlags z n h c).cycles = s.cycles := rfl
@[simp] theorem setFlags_fault (z n h c : Bool) : (s.setFlags z n h c).fault = s.fault := rfl
@[simp] theorem setFlags_mem (z n h c : Bool) : (s.setFlags z n h c).mem = s.mem := rfl
@[simp] theorem setFlags_ramBanks (z n h c : Bool) : (s.setFlags z n h c).ramBanks = s.ramBanks := rfl
@[simp] theorem setFlags_haltBugMode (z n h c : Bool) : (s.setFlags z n h c).haltBugMode = s.haltBugMode := rfl
@[simp] theorem setFlags_reg (z n h c : Bool) (r : Reg8) : (s.setFlags z n h c).reg r = s.reg r :=
  by cases r <;> rfl

/-! ### setSp -/

@[simp] theorem setSp_a (v : Word) : (s.setSp v).a = s.a := rfl
@[simp] theorem setSp_f (v : Word) : (s.setSp v).f = s.f := rfl
@[simp] theorem setSp_b (v : Word) : (s.setSp v).b = s.b := rfl
@[simp] theorem setSp_c (v : Word) : (s.setSp v).c = s.c := rfl
@[simp] theorem setSp_d (v : Word) : (s.setSp v).d = s.d := rfl
@[simp] theorem setSp_e (v : Word) : (s.setSp v).e = s.e := rfl
@[simp] theorem setSp_h (v : Word) : (s.setSp v).h = s.h := rfl
@[simp] theorem setSp_l (v : Word) : (s.setSp v).l = s.l := rfl
@[simp] theorem setSp_sp (v : Word) : (s.setSp v).sp = v := rfl
@[simp] theorem setSp_pc (v : Word) : (s.setSp v).pc = s.pc := rfl
@[simp] theorem setSp_ime (v : Word) : (s.setSp v).ime = s.ime := rfl
@[simp] theorem setSp_eiPending (v : Word) : (s.setSp v).eiPending = s.eiPending := rfl
@[simp] theorem setSp_halted (v : Word) : (s.setSp v).halted = s.halted := rfl
@[simp] theorem setSp_stopped (v : Word) : (s.setSp v).stopped = s.stopped := rfl
@[simp] theorem setSp_haltBug (v : Word) : (s.setSp v).haltBug = s.haltBug := rfl
@[simp] theorem setSp_cycles (v : Word) : (s.setSp v).cycles = s.cycles := rfl
@[simp] theorem setSp_fault (v : Word) : (s.setSp v).fault = s.fault := rfl
@[simp] theorem setSp_mem (v : Word) : (s.setSp v).mem = s.mem := rfl
@[simp] theorem setSp_ramBanks (v : Word) : (s.setSp v).ramBanks = s.ramBanks := rfl
@[simp] theorem setSp_haltBugMode (v : Word) : (s.setSp v).haltBugMode = s.haltBugMode := rfl
@[simp] theorem setSp_reg (v : Word) (r : Reg8) : (s.setSp v).reg r = s.reg r := by cases r <;> rfl

/-! ### setPc -/

@[simp] theorem setPc_a (v : Word) : (s.setPc v).a = s.a := rfl
@[simp] theorem setPc_f (v : Word) : (s.setPc v).f = s.f := rfl
@[simp] theorem setPc_b (v : Word) : (s.setPc v).b = s.b := rfl
@[simp] theorem setPc_c (v : Word) : (s.setPc v).c = s.c := rfl
@[simp] theorem setPc_d (v : Word) : (s.setPc v).d = s.d := rfl
@[simp] theorem setPc_e (v : Word) : (s.setPc v).e = s.e := rfl
@[simp] theorem setPc_h (v : Word) : (s.setPc v).h = s.h := rfl
@[simp] theorem setPc_l (v : Word) : (s.setPc v).l = s.l := rfl
@[simp] theorem setPc_sp (v : Word) : (s.setPc v).sp = s.sp := rfl
@[simp] theorem setPc_pc (v : Word) : (s.setPc v).pc = v := rfl
@[simp] theorem setPc_ime (v : Word) : (s.setPc v).ime = s.ime := rfl
@[simp] theorem setPc_eiPending (v : Word) : (s.setPc v).eiPending = s.eiPending := rfl
@[simp] theorem setPc_halted (v : Word) : (s.setPc v).halted = s.halted := rfl
@[simp] theorem setPc_stopped (v : Word) : (s.setPc v).stopped = s.stopped := rfl
@[simp] theorem setPc_haltBug (v : Word) : (s.setPc v).haltBug = s.haltBug := rfl
@[simp] theorem setPc_cycles (v : Word) : (s.setPc v).cycles = s.cycles := rfl
@[simp] theorem setPc_fault (v : Word) : (s.setPc v).fault = s.fault := rfl
@[simp] theorem setPc_mem (v : Word) : (s.setPc v).mem = s.mem := rfl
@[simp] theorem setPc_ramBanks (v : Word) : (s.setPc v).ramBanks = s.ramBanks := rfl
@[simp] theorem setPc_haltBugMode (v : Word) : (s.setPc v).haltBugMode = s.haltBugMode := rfl
@[simp] theorem setPc_reg (v : Word) (r : Reg8) : (s.setPc v).reg r = s.reg r := by cases r <;> rfl

/-! ### charge -/

@[simp] theorem charge_a (n : Nat) : (s.charge n).a = s.a := rfl
@[simp] theorem charge_f (n : Nat) : (s.charge n).f = s.f := rfl
@[simp] theorem charge_b (n : Nat) : (s.charge n).b = s.b := rfl
@[simp] theorem charge_c (n : Nat) : (s.charge n).c = s.c := rfl
@[simp] theorem charge_d (n : Nat) : (s.charge n).d = s.d := rfl
@[simp] theorem charge_e (n : Nat) : (s.charge n).e = s.e := rfl
@[simp] theorem charge_h (n : Nat) : (s.charge n).h = s.h := rfl
@[simp] theorem charge_l (n : Nat) : (s.charge n).l = s.l := rfl
@[simp] theorem charge_sp (n : Nat) : (s.charge n).sp = s.sp := rfl
@[simp] theorem charge_pc (n : Nat) : (s.charge n).pc = s.pc := rfl
@[simp] theorem charge_ime (n : Nat) : (s.charge n).ime = s.ime := rfl
@[simp] theorem charge_eiPending (n : Nat) : (s.charge n).eiPending = s.eiPending := rfl
@[simp] theorem charge_halted (n : Nat) : (s.charge n).halted = s.halted := rfl
@[simp] theorem charge_stopped (n : Nat) : (s.charge n).stopped = s.stopped := rfl
@[simp] theorem charge_haltBug (n : Nat) : (s.charge n).haltBug = s.haltBug := rfl
@[simp] theorem charge_cycles (n : Nat) : (s.charge n).cycles = s.cycles + n := rfl
@[simp] theorem charge_fault (n : Nat) : (s.charge n).fault = s.fault := rfl
@[simp] theorem charge_mem (n : Nat) : (s.charge n).mem = s.mem := rfl
@[simp] theorem charge_ramBanks (n : Nat) : (s.charge n).ramBanks = s.ramBanks := rfl
@[simp] theorem charge_haltBugMode (n : Nat) : (s.charge n).haltBugMode = s.haltBugMode := rfl
@[simp] theorem charge_reg (n : Nat) (r : Reg8) : (s.charge n).reg r = s.reg r := by cases r <;> rfl

/-! ### setBc -/

@[simp] theorem setBc_a (v : Word) : (s.setBc v).a = s.a := rfl
@[simp] theorem setBc_f (v : Word) : (s.setBc v).f = s.f := rfl
@[simp] theorem setBc_b (v : Word) : (s.setBc v).b = hiByte v := rfl
@[simp] theorem setBc_c (v : Word) : (s.setBc v).c = loByte v := rfl
@[simp] theorem setBc_d (v : Word) : (s.setBc v).d = s.d := rfl
@[simp] theorem setBc_e (v : Word) : (s.setBc v).e = s.e := rfl
@[simp] theorem setBc_h (v : Word) : (s.setBc v).h = s.h := rfl
@[simp] theorem setBc_l (v : Word) : (s.setBc v).l = s.l := rfl
@[simp] theorem setBc_sp (v : Word) : (s.setBc v).sp = s.sp := rfl
@[simp] theorem setBc_pc (v : Word) : (s.setBc v).pc = s.pc := rfl
@[simp] theorem setBc_ime (v : Word) : (s.setBc v).ime = s.ime := rfl
@[simp] theorem setBc_eiPending (v : Word) : (s.setBc v).eiPending = s.eiPending := rfl
@[simp] theorem setBc_halted (v : Word) : (s.setBc v).halted = s.halted := rfl
@[simp] theorem setBc_stopped (v : Word) : (s.setBc v).stopped = s.stopped := rfl
@[simp] theorem setBc_haltBug (v : Word) : (s.setBc v).haltBug = s.haltBug := rfl
@[simp] theorem setBc_cycles (v : Word) : (s.setBc v).cycles = s.cycles := rfl
@[simp] theorem setBc_fault (v : Word) : (s.setBc v).fault = s.fault := rfl
@[simp] theorem setBc_mem (v : Word) : (s.setBc v).mem = s.mem := rfl
@[simp] theorem setBc_ramBanks (v : Word) : (s.setBc v).ramBanks = s.ramBanks := rfl
@[simp] theorem setBc_haltBugMode (v : Word) : (s.setBc v).haltBugMode = s.haltBugMode := rfl

/-! ### setDe -/

@[simp] theorem setDe_a (v : Word) : (s.setDe v).a = s.a := rfl
@[simp] theorem setDe_f (v : Word) : (s.setDe v).f = s.f := rfl
@[simp] theorem setDe_b (v : Word) : (s.setDe v).b = s.b := rfl
@[simp] theorem setDe_c (v : Word) : (s.setDe v).c = s.c := rfl
@[simp] theorem setDe_d (v : Word) : (s.setDe v).d = hiByte v := rfl
@[simp] theorem setDe_e (v : Word) : (s.setDe v).e = loByte v := rfl
@[simp] theorem setDe_h (v : Word) : (s.setDe v).h = s.h := rfl
@[simp] theorem setDe_l (v : Word) : (s.setDe v).l = s.l := rfl
@[simp] theorem setDe_sp (v : Word) : (s.setDe v).sp = s.sp := rfl
@[simp] theorem setDe_pc (v : Word) : (s.setDe v).pc = s.pc := rfl
@[simp] theorem setDe_ime (v : Word) : (s.setDe v).ime = s.ime := rfl
@[simp] theorem setDe_eiPending (v : Word) : (s.setDe v).eiPending = s.eiPending := rfl
@[simp] theorem setDe_halted (v : Word) : (s.setDe v).halted = s.halted := rfl
@[simp] theorem setDe_stopped (v : Word) : (s.setDe v).stopped = s.stopped := rfl
@[simp] theorem setDe_haltBug (v : Word) : (s.setDe v).haltBug = s.haltBug := rfl
@[simp] theorem setDe_cycles (v : Word) : (s.setDe v).cycles = s.cycles := rfl
@[simp] theorem setDe_fault (v : Word) : (s.setDe v).fault = s.fault := rfl
@[simp] theorem setDe_mem (v : Word) : (s.setDe v).mem = s.mem := rfl
@[simp] theorem setDe_ramBanks (v : Word) : (s.setDe v).ramBanks = s.ramBanks := rfl
@[simp] theorem setDe_haltBugMode (v : Word) : (s.setDe v).haltBugMode = s.haltBugMode := rfl

/-! ### setHl -/

@[simp] theorem setHl_a (v : Word) : (s.setHl v).a = s.a := rfl
@[simp] theorem setHl_f (v : Word) : (s.setHl v).f = s.f := rfl
@[simp] theorem setHl_b (v : Word) : (s.setHl v).b = s.b := rfl
@[simp] theorem setHl_c (v : Word) : (s.setHl v).c = s.c := rfl
@[simp] theorem setHl_d (v : Word) : (s.setHl v).d = s.d := rfl
@[simp] theorem setHl_e (v : Word) : (s.setHl v).e = s.e := rfl
@[simp] theorem setHl_h (v : Word) : (s.setHl v).h = hiByte v := rfl
@[simp] theorem setHl_l (v : Word) : (s.setHl v).l = loByte v := rfl
@[simp] theorem setHl_sp (v : Word) : (s.setHl v).sp = s.sp := rfl
@[simp] theorem setHl_pc (v : Word) : (s.setHl v).pc = s.pc := rfl
@[simp] theorem setHl_ime (v : Word) : (s.setHl v).ime = s.ime := rfl
@[simp] theorem setHl_eiPending (v : Word) : (s.setHl v).eiPending = s.eiPending := rfl
@[simp] theorem setHl_halted (v : Word) : (s.setHl v).halted = s.halted := rfl
@[simp] theorem setHl_stopped (v : Word) : (s.setHl v).stopped = s.stopped := rfl
@[simp] theorem setHl_haltBug (v : Word) : (s.setHl v).haltBug = s.haltBug := rfl
@[simp] theorem setHl_cycles (v : Word) : (s.setHl v).cycles = s.cycles := rfl
@[simp] theorem setHl_fault (v : Word) : (s.setHl v).fault = s.fault := rfl
@[simp] theorem setHl_mem (v : Word) : (s.setHl v).mem = s.mem := rfl
@[simp] theorem setHl_ramBanks (v : Word) : (s.setHl v).ramBanks = s.ramBanks := rfl
@[simp] theorem setHl_haltBugMode (v : Word) : (s.setHl v).haltBugMode = s.haltBugMode := rfl

/-! ### setAf -/

@[simp] theorem setAf_a (v : Word) : (s.setAf v).a = hiByte v := rfl
@[simp] theorem setAf_f (v : Word) : (s.setAf v).f = loByte v &&& 0xF0 := rfl
@[simp] theorem setAf_b (v : Word) : (s.setAf v).b = s.b := rfl
@[simp] theorem setAf_c (v : Word) : (s.setAf v).c = s.c := rfl
@[simp] theorem setAf_d (v : Word) : (s.setAf v).d = s.d := rfl
@[simp] theorem setAf_e (v : Word) : (s.setAf v).e = s.e := rfl
@[simp] theorem setAf_h (v : Word) : (s.setAf v).h = s.h := rfl
@[simp] theorem setAf_l (v : Word) : (s.setAf v).l = s.l := rfl
@[simp] theorem setAf_sp (v : Word) : (s.setAf v).sp = s.sp := rfl
@[simp] theorem setAf_pc (v : Word) : (s.setAf v).pc = s.pc := rfl
@[simp] theorem setAf_ime (v : Word) : (s.setAf v).ime = s.ime := rfl
@[simp] theorem setAf_eiPending (v : Word) : (s.setAf v).eiPending = s.eiPending := rfl
@[simp] theorem setAf_halted (v : Word) : (s.setAf v).halted = s.halted := rfl
@[simp] theorem setAf_stopped (v : Word) : (s.setAf v).stopped = s.stopped := rfl
@[simp] theorem setAf_haltBug (v : Word) : (s.setAf v).haltBug = s.haltBug := rfl
@[simp] theorem setAf_cycles (v : Word) : (s.setAf v).cycles = s.cycles := rfl
@[simp] theorem setAf_fault (v : Word) : (s.setAf v).fault = s.fault := rfl
@[simp] theorem setAf_mem (v : Word) : (s.setAf v).mem = s.mem := rfl
@[simp] theorem setAf_ramBanks (v : Word) : (s.setAf v).ramBanks = s.ramBanks := rfl
@[simp] theorem setAf_haltBugMode (v : Word) : (s.setAf v).haltBugMode = s.haltBugMode := rfl

/-! ### A bus write changes the storage and nothing else -/

@[simp] theorem write_a (addr : Word) (v : Byte) : (s.write addr v).a = s.a :=
  by
  unfold State.write; split <;> rfl
@[simp] theorem write_f (addr : Word) (v : Byte) : (s.write addr v).f = s.f :=
  by
  unfold State.write; split <;> rfl
@[simp] theorem write_b (addr : Word) (v : Byte) : (s.write addr v).b = s.b :=
  by
  unfold State.write; split <;> rfl
@[simp] theorem write_c (addr : Word) (v : Byte) : (s.write addr v).c = s.c :=
  by
  unfold State.write; split <;> rfl
@[simp] theorem write_d (addr : Word) (v : Byte) : (s.write addr v).d = s.d :=
  by
  unfold State.write; split <;> rfl
@[simp] theorem write_e (addr : Word) (v : Byte) : (s.write addr v).e = s.e :=
  by
  unfold State.write; split <;> rfl
@[simp] theorem write_h (addr : Word) (v : Byte) : (s.write addr v).h = s.h :=
  by
  unfold State.write; split <;> rfl
@[simp] theorem write_l (addr : Word) (v : Byte) : (s.write addr v).l = s.l :=
  by
  unfold State.write; split <;> rfl
@[simp] theorem write_sp (addr : Word) (v : Byte) : (s.write addr v).sp = s.sp :=
  by
  unfold State.write; split <;> rfl
@[simp] theorem write_pc (addr : Word) (v : Byte) : (s.write addr v).pc = s.pc :=
  by
  unfold State.write; split <;> rfl
@[simp] theorem write_ime (addr : Word) (v : Byte) : (s.write addr v).ime = s.ime :=
  by
  unfold State.write; split <;> rfl
@[simp] theorem write_eiPending (addr : Word) (v : Byte) : (s.write addr v).eiPending = s.eiPending :=
  by
  unfold State.write; split <;> rfl
@[simp] theorem write_halted (addr : Word) (v : Byte) : (s.write addr v).halted = s.halted :=
  by
  unfold State.write; split <;> rfl
@[simp] theorem write_stopped (addr : Word) (v : Byte) : (s.write addr v).stopped = s.stopped :=
  by
  unfold State.write; split <;> rfl
@[simp] theorem write_haltBug (addr : Word) (v : Byte) : (s.write addr v).haltBug = s.haltBug :=
  by
  unfold State.write; split <;> rfl
@[simp] theorem write_cycles (addr : Word) (v : Byte) : (s.write addr v).cycles = s.cycles :=
  by
  unfold State.write; split <;> rfl
@[simp] theorem write_fault (addr : Word) (v : Byte) : (s.write addr v).fault = s.fault :=
  by
  unfold State.write; split <;> rfl
@[simp] theorem write_ramBanks (addr : Word) (v : Byte) : (s.write addr v).ramBanks = s.ramBanks :=
  by
  unfold State.write; split <;> rfl
@[simp] theorem write_haltBugMode (addr : Word) (v : Byte) : (s.write addr v).haltBugMode = s.haltBugMode :=
  by
  unfold State.write; split <;> rfl
@[simp] theorem write_reg (addr : Word) (v : Byte) (r : Reg8) : (s.write addr v).reg r = s.reg r :=
  by cases r <;> simp
@[simp] theorem write_hl (addr : Word) (v : Byte) : (s.write addr v).hl = s.hl := by simp [State.hl]

/-! ### A read depends on the storage and the cartridge's RAM -/

theorem read_congr (s t : State) (hm : t.mem = s.mem) (hr : t.ramBanks = s.ramBanks) (addr : Word) :
    t.read addr = s.read addr := by rw [State.read, State.read, hm, hr]

@[simp] theorem setReg_read (r : Reg8) (v : Byte) (addr : Word) : (s.setReg r v).read addr = s.read addr :=
  by cases r <;> rfl
@[simp] theorem setF_read (v : Byte) (addr : Word) : (s.setF v).read addr = s.read addr := rfl
@[simp] theorem setFlags_read (z n h c : Bool) (addr : Word) : (s.setFlags z n h c).read addr = s.read addr := rfl
@[simp] theorem setSp_read (v : Word) (addr : Word) : (s.setSp v).read addr = s.read addr := rfl
@[simp] theorem setPc_read (v : Word) (addr : Word) : (s.setPc v).read addr = s.read addr := rfl
@[simp] theorem charge_read (n : Nat) (addr : Word) : (s.charge n).read addr = s.read addr := rfl
@[simp] theorem setBc_read (v : Word) (addr : Word) : (s.setBc v).read addr = s.read addr := rfl
@[simp] theorem setDe_read (v : Word) (addr : Word) : (s.setDe v).read addr = s.read addr := rfl
@[simp] theorem setHl_read (v : Word) (addr : Word) : (s.setHl v).read addr = s.read addr := rfl
@[simp] theorem setAf_read (v : Word) (addr : Word) : (s.setAf v).read addr = s.read addr := rfl

/-! ### The flags -/

/-- What F holds after a flag write is the mask-free packing: bits 3..0 are zero already. -/
@[simp] theorem packFlags_mask (z n h c : Bool) : packFlags z n h c &&& 0xF0 = packFlags z n h c := by
  revert z n h c; decide

theorem packFlags_toNat (z n h c : Bool) :
    (packFlags z n h c).toNat = z.toNat * 0x80 + n.toNat * 0x40 + h.toNat * 0x20 + c.toNat * 0x10 := by
  revert z n h c; decide

@[simp] theorem setFlags_flagZ (z n h c : Bool) : (s.setFlags z n h c).flagZ = z := by
  simp only [State.flagZ, setFlags_f]; revert z n h c; decide

@[simp] theorem setFlags_flagN (z n h c : Bool) : (s.setFlags z n h c).flagN = n := by
  simp only [State.flagN, setFlags_f]; revert z n h c; decide

@[simp] theorem setFlags_flagH (z n h c : Bool) : (s.setFlags z n h c).flagH = h := by
  simp only [State.flagH, setFlags_f]; revert z n h c; decide

@[simp] theorem setFlags_flagC (z n h c : Bool) : (s.setFlags z n h c).flagC = c := by
  simp only [State.flagC, setFlags_f]; revert z n h c; decide

/-! ### The pairs -/

@[simp] theorem setBc_bc (v : Word) : (s.setBc v).bc = v := by simp [State.bc]
@[simp] theorem setDe_de (v : Word) : (s.setDe v).de = v := by simp [State.de]
@[simp] theorem setHl_hl (v : Word) : (s.setHl v).hl = v := by simp [State.hl]
@[simp] theorem setF_hl (v : Byte) : (s.setF v).hl = s.hl := rfl
@[simp] theorem setFlags_hl (z n h c : Bool) : (s.setFlags z n h c).hl = s.hl := rfl
@[simp] theorem setSp_hl (v : Word) : (s.setSp v).hl = s.hl := rfl
@[simp] theorem setPc_hl (v : Word) : (s.setPc v).hl = s.hl := rfl
@[simp] theorem charge_hl (n : Nat) : (s.charge n).hl = s.hl := rfl

end Sys2Proof.Machine
end

