-- ==== Sys2Proof/Laws/Memory.lean ====
section
/-! SUPPORT. The storage list and the bus: read after write, and that every operation keeps the canonical form. -/

namespace Sys2Proof.Machine

/-! ### The storage list as a map -/

theorem get_erase (m : Memory) (k j : Nat) :
    Memory.get (Memory.erase m k) j = if k = j then Config.unlistedByte else Memory.get m j := by
  induction m with
  | nil => simp [Memory.erase, Memory.get]
  | cons cell rest ih =>
    obtain ⟨i, w⟩ := cell
    simp only [Memory.erase, List.filter_cons] at ih ⊢
    by_cases hik : i = k
    · subst hik
      simp only [ne_eq, not_true_eq_false, decide_false, Bool.false_eq_true, if_false, ih, Memory.get]
      split <;> rfl
    · simp only [ne_eq, hik, not_false_eq_true, decide_true, if_true, Memory.get, ih]
      by_cases hij : i = j
      · subst hij; simp [Ne.symm hik]
      · simp [hij]

theorem get_insert (m : Memory) (k : Nat) (v : Byte) (j : Nat) :
    Memory.get (Memory.insert m k v) j = if k = j then v else Memory.get m j := by
  induction m with
  | nil => simp [Memory.insert, Memory.get]
  | cons cell rest ih =>
    obtain ⟨i, w⟩ := cell
    simp only [Memory.insert]
    split
    · rename_i hlt
      simp only [Memory.get, ih]
      by_cases hij : i = j
      · have : k ≠ j := by omega
        simp [hij, this]
      · simp [hij]
    · split
      · rename_i hik
        subst hik
        simp only [Memory.get]
        split <;> rfl
      · simp only [Memory.get]

/-- Reading storage after a store. -/
theorem get_set (m : Memory) (k : Nat) (v : Byte) (j : Nat) :
    Memory.get (Memory.set m k v) j = if k = j then v else Memory.get m j := by
  unfold Memory.set
  split
  · rename_i h; rw [get_erase, h]
  · rw [get_insert]

/-! ### The canonical form -/

theorem wf_cons (k : Nat) (v : Byte) (rest : Memory) :
    Memory.wf ((k, v) :: rest) = true ↔
      ownsStorage k = true ∧ v ≠ Config.unlistedByte ∧ (∀ cell ∈ rest, k < cell.1) ∧ Memory.wf rest = true := by
  simp [Memory.wf, and_assoc]

theorem wf_filter (m : Memory) (p : Host.Cell → Bool) (h : Memory.wf m = true) : Memory.wf (m.filter p) = true := by
  induction m with
  | nil => rfl
  | cons cell rest ih =>
    obtain ⟨k, v⟩ := cell
    obtain ⟨ho, hv, hlt, hr⟩ := (wf_cons k v rest).1 h
    rw [List.filter_cons]
    split
    · exact (wf_cons _ _ _).2 ⟨ho, hv, fun c hc => hlt c (List.mem_of_mem_filter hc), ih hr⟩
    · exact ih hr

theorem wf_erase (m : Memory) (k : Nat) (h : Memory.wf m = true) : Memory.wf (Memory.erase m k) = true :=
  wf_filter m _ h

theorem mem_insert (m : Memory) (k : Nat) (v : Byte) (cell : Host.Cell) (h : cell ∈ Memory.insert m k v) :
    cell = (k, v) ∨ cell ∈ m := by
  induction m with
  | nil => exact .inl (by simpa [Memory.insert] using h)
  | cons head rest ih =>
    obtain ⟨i, w⟩ := head
    simp only [Memory.insert] at h
    split at h
    · rcases List.mem_cons.1 h with rfl | h
      · exact .inr (by simp)
      · exact (ih h).imp id (List.mem_cons_of_mem _)
    · split at h
      · exact (List.mem_cons.1 h).imp id (List.mem_cons_of_mem _)
      · exact List.mem_cons.1 h

theorem wf_insert (m : Memory) (k : Nat) (v : Byte) (hk : ownsStorage k = true) (hv : v ≠ Config.unlistedByte)
    (h : Memory.wf m = true) : Memory.wf (Memory.insert m k v) = true := by
  induction m with
  | nil => exact (wf_cons _ _ _).2 ⟨hk, hv, by simp, rfl⟩
  | cons head rest ih =>
    obtain ⟨i, w⟩ := head
    obtain ⟨ho, hw, hlt, hr⟩ := (wf_cons i w rest).1 h
    simp only [Memory.insert]
    split
    · rename_i hik
      refine (wf_cons _ _ _).2 ⟨ho, hw, fun c hc => ?_, ih hr⟩
      rcases mem_insert rest k v c hc with rfl | hc
      · exact hik
      · exact hlt c hc
    · split
      · rename_i hik
        subst hik
        exact (wf_cons _ _ _).2 ⟨hk, hv, hlt, hr⟩
      · refine (wf_cons _ _ _).2 ⟨hk, hv, fun c hc => ?_, h⟩
        rcases List.mem_cons.1 hc with rfl | hc
        · show k < i; omega
        · have := hlt c hc; omega

theorem wf_set (m : Memory) (k : Nat) (v : Byte) (hk : ownsStorage k = true) (h : Memory.wf m = true) :
    Memory.wf (Memory.set m k v) = true := by
  unfold Memory.set
  split
  · exact wf_erase m k h
  · exact wf_insert m k v hk ‹_› h

/-- In the canonical form the list is the map: equal memories are equal data. -/
theorem get_eq_unlisted (m : Memory) (k : Nat) (h : ∀ cell ∈ m, k < cell.1) :
    Memory.get m k = Config.unlistedByte := by
  induction m with
  | nil => rfl
  | cons head rest ih =>
    obtain ⟨i, w⟩ := head
    have : k < i := h (i, w) (by simp)
    simp only [Memory.get]
    rw [if_neg (by omega)]
    exact ih fun c hc => h c (List.mem_cons_of_mem _ hc)

theorem wf_ext (m m' : Memory) (h : Memory.wf m = true) (h' : Memory.wf m' = true)
    (heq : ∀ k, Memory.get m k = Memory.get m' k) : m = m' := by
  induction m generalizing m' with
  | nil =>
    cases m' with
    | nil => rfl
    | cons head rest =>
      obtain ⟨i, w⟩ := head
      have := heq i
      simp only [Memory.get, if_pos] at this
      exact absurd this.symm ((wf_cons i w rest).1 h').2.1
  | cons head rest ih =>
    obtain ⟨i, w⟩ := head
    obtain ⟨ho, hw, hlt, hr⟩ := (wf_cons i w rest).1 h
    cases m' with
    | nil =>
      have := heq i
      simp only [Memory.get, if_pos] at this
      exact absurd this hw
    | cons head' rest' =>
      obtain ⟨j, x⟩ := head'
      obtain ⟨ho', hx, hlt', hr'⟩ := (wf_cons j x rest').1 h'
      have hij : i = j := by
        rcases Nat.lt_trichotomy i j with hl | he | hg
        · have h1 := heq i
          simp only [Memory.get, if_pos, if_neg (show ¬j = i by omega)] at h1
          rw [get_eq_unlisted rest' i fun c hc => Nat.lt_trans hl (hlt' c hc)] at h1
          exact absurd h1 hw
        · exact he
        · have h1 := heq j
          simp only [Memory.get, if_pos, if_neg (show ¬i = j by omega)] at h1
          rw [get_eq_unlisted rest j fun c hc => Nat.lt_trans hg (hlt c hc)] at h1
          exact absurd h1.symm hx
      subst hij
      have hwx : w = x := by simpa [Memory.get] using heq i
      subst hwx
      refine congrArg _ (ih rest' hr hr' fun k => ?_)
      by_cases hk : i = k
      · subst hk
        rw [get_eq_unlisted rest i hlt, get_eq_unlisted rest' i hlt']
      · simpa [Memory.get, hk] using heq k

/-! ### The address decoder -/

/-- What each slot is, in numbers (20_memory.md R51). -/
theorem slot_cases (ramBanks : Option Nat) (addr : Word) :
    (addr.toNat < 0x8000 ∧ slot ramBanks addr = .rom addr.toNat) ∨
    (0x8000 ≤ addr.toNat ∧ addr.toNat < 0xA000 ∧ slot ramBanks addr = .ram addr.toNat) ∨
    (0xA000 ≤ addr.toNat ∧ addr.toNat < 0xC000 ∧ hasExternalRam ramBanks = true ∧
      slot ramBanks addr = .ram addr.toNat) ∨
    (0xA000 ≤ addr.toNat ∧ addr.toNat < 0xC000 ∧ hasExternalRam ramBanks = false ∧ slot ramBanks addr = .absent) ∨
    (0xC000 ≤ addr.toNat ∧ addr.toNat < 0xE000 ∧ slot ramBanks addr = .ram addr.toNat) ∨
    (0xE000 ≤ addr.toNat ∧ addr.toNat < 0xFE00 ∧ slot ramBanks addr = .ram (addr.toNat - 0x2000)) ∨
    (0xFE00 ≤ addr.toNat ∧ addr.toNat < 0xFEA0 ∧ slot ramBanks addr = .ram addr.toNat) ∨
    (0xFEA0 ≤ addr.toNat ∧ addr.toNat < 0xFF00 ∧ slot ramBanks addr = .absent) ∨
    (0xFF00 ≤ addr.toNat ∧ slot ramBanks addr = .ram addr.toNat) := by
  unfold slot region
  by_cases h1 : addr.toNat < 0x4000
  · exact .inl ⟨by omega, by simp [h1]⟩
  by_cases h2 : addr.toNat < 0x8000
  · exact .inl ⟨h2, by simp [h1, h2]⟩
  by_cases h3 : addr.toNat < 0xA000
  · exact .inr (.inl ⟨by omega, h3, by simp [h1, h2, h3]⟩)
  by_cases h4 : addr.toNat < 0xC000
  · cases hb : hasExternalRam ramBanks
    · exact .inr (.inr (.inr (.inl ⟨by omega, h4, rfl, by simp [h1, h2, h3, h4]⟩)))
    · exact .inr (.inr (.inl ⟨by omega, h4, rfl, by simp [h1, h2, h3, h4]⟩))
  by_cases h5 : addr.toNat < 0xE000
  · exact .inr (.inr (.inr (.inr (.inl ⟨by omega, h5, by simp [h1, h2, h3, h4, h5]⟩))))
  by_cases h6 : addr.toNat < 0xFE00
  · exact .inr (.inr (.inr (.inr (.inr (.inl ⟨by omega, h6, by simp [h1, h2, h3, h4, h5, h6]⟩)))))
  by_cases h7 : addr.toNat < 0xFEA0
  · exact .inr (.inr (.inr (.inr (.inr (.inr (.inl ⟨by omega, h7, by simp [h1, h2, h3, h4, h5, h6, h7]⟩))))))
  by_cases h8 : addr.toNat < 0xFF00
  · exact .inr (.inr (.inr (.inr (.inr (.inr (.inr (.inl
      ⟨by omega, h8, by simp [h1, h2, h3, h4, h5, h6, h7, h8]⟩)))))))
  · refine .inr (.inr (.inr (.inr (.inr (.inr (.inr (.inr ⟨by omega, ?_⟩)))))))
    by_cases h9 : addr.toNat < 0xFF80
    · simp [h1, h2, h3, h4, h5, h6, h7, h8, h9]
    · by_cases h10 : addr.toNat < 0xFFFF
      · simp [h1, h2, h3, h4, h5, h6, h7, h8, h9, h10]
      · simp [h1, h2, h3, h4, h5, h6, h7, h8, h9, h10]

theorem hasExternalRam_iff (ramBanks : Option Nat) :
    hasExternalRam ramBanks = true ↔ ∃ n, ramBanks = some n ∧ n ≠ 0 := by
  cases ramBanks <;> simp [hasExternalRam]

theorem cellAddress_toNat (addr : Word) :
    (cellAddress addr).toNat =
      if 0xE000 ≤ addr.toNat ∧ addr.toNat ≤ 0xFDFF then addr.toNat - 0x2000 else addr.toNat := by
  have := addr.isLt
  unfold cellAddress
  split
  · rw [BitVec.toNat_sub]
    show (2 ^ 16 - 8192 + addr.toNat) % 2 ^ 16 = _
    omega
  · rfl

/-- A writable address has a cell, the one its cell address names. -/
theorem slot_of_writable (s : State) (addr : Word) (h : Writable s addr) :
    slot s.ramBanks addr = .ram (cellAddress addr).toNat := by
  obtain ⟨h1, h2, h3⟩ := h
  rw [cellAddress_toNat]
  rcases slot_cases s.ramBanks addr with h | h | h | h | h | h | h | h | h
  · omega
  · rw [if_neg (by omega)]; exact h.2.2
  · rw [if_neg (by omega)]; exact h.2.2.2
  · rw [(hasExternalRam_iff _).2 (h3 ⟨by omega, by omega⟩)] at h
    simp at h
  · rw [if_neg (by omega)]; exact h.2.2
  · rw [if_pos (by omega)]; exact h.2.2
  · rw [if_neg (by omega)]; exact h.2.2
  · omega
  · rw [if_neg (by omega)]; exact h.2

/-- An address that is not writable is ROM or nothing. -/
theorem slot_of_not_writable (s : State) (addr : Word) (h : ¬Writable s addr) :
    slot s.ramBanks addr = .rom addr.toNat ∨ slot s.ramBanks addr = .absent := by
  unfold Writable at h
  rcases slot_cases s.ramBanks addr with h' | h' | h' | h' | h' | h' | h' | h' | h'
  · exact .inl h'.2
  · exact absurd ⟨by omega, by omega, fun _ => by omega⟩ h
  · exact absurd ⟨by omega, by omega, fun _ => (hasExternalRam_iff _).1 h'.2.2.1⟩ h
  · exact .inr h'.2.2.2
  · exact absurd ⟨by omega, by omega, fun _ => by omega⟩ h
  · exact absurd ⟨by omega, by omega, fun _ => by omega⟩ h
  · exact absurd ⟨by omega, by omega, fun _ => by omega⟩ h
  · exact .inr h'.2.2
  · exact absurd ⟨by omega, by omega, fun _ => by omega⟩ h

/-- The key of any slot that has storage is the cell address. -/
theorem slot_key (ramBanks : Option Nat) (addr : Word) :
    slot ramBanks addr = .rom (cellAddress addr).toNat ∨ slot ramBanks addr = .ram (cellAddress addr).toNat ∨
      slot ramBanks addr = .absent := by
  rw [cellAddress_toNat]
  rcases slot_cases ramBanks addr with h | h | h | h | h | h | h | h | h
  · rw [if_neg (by omega)]; exact .inl h.2
  · rw [if_neg (by omega)]; exact .inr (.inl h.2.2)
  · rw [if_neg (by omega)]; exact .inr (.inl h.2.2.2)
  · exact .inr (.inr h.2.2.2)
  · rw [if_neg (by omega)]; exact .inr (.inl h.2.2)
  · rw [if_pos (by omega)]; exact .inr (.inl h.2.2)
  · rw [if_neg (by omega)]; exact .inr (.inl h.2.2)
  · exact .inr (.inr h.2.2)
  · rw [if_neg (by omega)]; exact .inr (.inl h.2)

/-- A key the bus stores under owns storage. -/
theorem slot_owns (ramBanks : Option Nat) (addr : Word) (k : Nat)
    (h : slot ramBanks addr = .ram k ∨ slot ramBanks addr = .rom k) : ownsStorage k = true := by
  have hlt := addr.isLt
  rcases slot_cases ramBanks addr with h' | h' | h' | h' | h' | h' | h' | h' | h' <;>
    simp only [h', reduceCtorEq, Slot.ram.injEq, Slot.rom.injEq, or_false, false_or, or_self] at h <;>
    (subst h; simp [ownsStorage]; omega)

/-! ### The bus -/

/-- A bus write in its two cases: one cell, or nothing at all (20_memory.md R53). -/
theorem write_cases (s : State) (addr : Word) (v : Byte) :
    (Writable s addr ∧ s.write addr v = { s with mem := Memory.set s.mem (cellAddress addr).toNat v }) ∨
      (¬Writable s addr ∧ s.write addr v = s) := by
  by_cases h : Writable s addr
  · left; refine ⟨h, ?_⟩
    rw [State.write, slot_of_writable s addr h]
  · right; refine ⟨h, ?_⟩
    rw [State.write]
    rcases slot_of_not_writable s addr h with h | h <;> rw [h]

/-- Reading any address after a bus write. -/
theorem read_write (s : State) (addr other : Word) (v : Byte) :
    Stored addr v s (s.write addr v) ∧
      (Writable s addr → cellAddress other = cellAddress addr → (s.write addr v).read other = v) := by
  rcases write_cases s addr v with ⟨hw, he⟩ | ⟨hw, he⟩
  · have hread : ∀ o, cellAddress o = cellAddress addr → (s.write addr v).read o = v := by
      intro o ho
      rw [he, State.read]
      show (match slot s.ramBanks o with
        | .rom k | .ram k => Memory.get (Memory.set s.mem (cellAddress addr).toNat v) k
        | .absent => Config.openByte) = v
      rcases slot_key s.ramBanks o with hs | hs | hs
      · rw [hs, ho]; simp [get_set]
      · rw [hs, ho]; simp [get_set]
      · have hsa := slot_of_writable s addr hw
        have h1 := congrArg BitVec.toNat ho
        rw [cellAddress_toNat, cellAddress_toNat] at h1
        rcases slot_cases s.ramBanks o with h | h | h | h | h | h | h | h | h <;> simp only [h, reduceCtorEq] at hs
        · rcases slot_cases s.ramBanks addr with h' | h' | h' | h' | h' | h' | h' | h' | h' <;>
            simp only [h', reduceCtorEq] at hsa <;> split at h1 <;> split at h1 <;> try omega
          all_goals (rw [h.2.2.1] at h'; simp at h')
        · rcases slot_cases s.ramBanks addr with h' | h' | h' | h' | h' | h' | h' | h' | h' <;>
            simp only [h', reduceCtorEq] at hsa <;> split at h1 <;> split at h1 <;> omega
    refine ⟨⟨fun _ => hread addr rfl, fun h => absurd hw h, fun o ho => ?_⟩, fun _ ho => hread other ho⟩
    rw [he, State.read, State.read]
    show (match slot s.ramBanks o with
      | .rom k | .ram k => Memory.get (Memory.set s.mem (cellAddress addr).toNat v) k
      | .absent => Config.openByte) = _
    have hne : (cellAddress addr).toNat ≠ (cellAddress o).toNat := fun h => ho (BitVec.eq_of_toNat_eq h.symm)
    rcases slot_key s.ramBanks o with hs | hs | hs <;> rw [hs]
    · simp [get_set, hne]
    · simp [get_set, hne]
  · rw [he]
    exact ⟨⟨fun h => absurd h hw, fun _ _ => rfl, fun _ _ => rfl⟩, fun h => absurd h hw⟩

/-- What a bus write leaves, for the frame of a store. -/
theorem stored_write (s : State) (addr : Word) (v : Byte) : Stored addr v s (s.write addr v) :=
  (read_write s addr addr v).1

/-- A bus write changes no address's writability. -/
theorem writable_write (s : State) (addr other : Word) (v : Byte) :
    Writable (s.write addr v) other ↔ Writable s other := by
  simp [Writable]

/-- The two byte stores of a word (20_memory.md R55, R56). -/
theorem storedWord_write16 (s : State) (addr : Word) (v : Word) : StoredWord addr v s (s.write16 addr v) := by
  have hlo := stored_write s addr (loByte v)
  have hhi := stored_write (s.write addr (loByte v)) (addr + 1) (hiByte v)
  have hne : cellAddress addr ≠ cellAddress (addr + 1) ∨
      (addr.toNat = 0xDFFF ∨ addr.toNat = 0xFDFF) := by
    by_cases h : addr.toNat = 0xDFFF ∨ addr.toNat = 0xFDFF
    · exact .inr h
    · left
      intro he
      have h1 := congrArg BitVec.toNat he
      rw [cellAddress_toNat, cellAddress_toNat, BitVec.toNat_add] at h1
      rw [show (1 : Word).toNat = 1 from rfl] at h1
      have := addr.isLt
      split at h1 <;> split at h1 <;> omega
  have hne : cellAddress addr ≠ cellAddress (addr + 1) := by
    rcases hne with h | h | h
    · exact h
    · have : addr = 0xDFFF := BitVec.eq_of_toNat_eq h
      subst this; decide
    · have : addr = 0xFDFF := BitVec.eq_of_toNat_eq h
      subst this; decide
  unfold State.write16
  refine ⟨fun h => ?_, fun h => ?_, fun h => ?_, fun h => ?_, fun o h1 h2 => ?_⟩
  · rw [hhi.2.2 addr hne, hlo.1 h, loByte_toNat]
  · rw [hhi.1 ((writable_write s addr (addr + 1) _).2 h), hiByte_toNat]
  · rw [hhi.2.2 addr hne, hlo.2.1 h]
  · rw [hhi.2.1 fun h' => h ((writable_write s addr (addr + 1) _).1 h'), hlo.2.2 _ (Ne.symm hne)]
  · rw [hhi.2.2 o h2, hlo.2.2 o h1]

/-! ### Every bus operation keeps the canonical form -/

theorem wf_write (s : State) (addr : Word) (v : Byte) (h : Memory.wf s.mem = true) :
    Memory.wf (s.write addr v).mem = true := by
  rcases write_cases s addr v with ⟨hw, he⟩ | ⟨_, he⟩
  · rw [he]
    exact wf_set _ _ _ (slot_owns _ addr _ (.inl (slot_of_writable s addr hw))) h
  · rw [he]; exact h

theorem wf_write16 (s : State) (addr : Word) (v : Word) (h : Memory.wf s.mem = true) :
    Memory.wf (s.write16 addr v).mem = true := wf_write _ _ _ (wf_write _ _ _ h)

/-- The storage of `State.reset` has the form. -/
theorem wf_reset : Memory.wf State.reset.mem = true := rfl

/-- A bus write leaves the ROM region as it is (20_memory.md R58). -/
theorem write_keeps_rom (s : State) (addr other : Word) (v : Byte) (h : other.toNat < 0x8000) :
    (s.write addr v).read other = s.read other := by
  rcases write_cases s addr v with ⟨hw, _⟩ | ⟨_, he⟩
  · refine (stored_write s addr v).2.2 other fun he => ?_
    have h1 := congrArg BitVec.toNat he
    rw [cellAddress_toNat, cellAddress_toNat] at h1
    have := hw.1
    split at h1 <;> split at h1 <;> omega
  · rw [he]

end Sys2Proof.Machine
end

