-- ==== Sys2Proof/Laws/Cartridge.lean ====
section
/-! SUPPORT. The loader and the launch: what the mapped storage reads as, and that it is in canonical form. -/

namespace Sys2Proof.Machine

/-! ### The cells of consecutive bytes -/

/-- Every cell lies in its range and is listed only where it differs from an unlisted one. -/
theorem cellsFrom_ne (k : Nat) (bytes : List Byte) :
    ∀ c ∈ cellsFrom k bytes, c.2 ≠ Config.unlistedByte ∧ k ≤ c.1 ∧ c.1 < k + bytes.length := by
  induction bytes generalizing k with
  | nil => simp [cellsFrom]
  | cons v r ih =>
    intro c hc
    simp only [cellsFrom] at hc
    have := ih (k+1)
    split at hc
    · have := this c hc; refine ⟨this.1, by omega, by simp; omega⟩
    · rcases List.mem_cons.1 hc with rfl | hc
      · exact ⟨‹_›, by simp, by simp⟩
      · have := this c hc; refine ⟨this.1, by omega, by simp; omega⟩

theorem get_cellsFrom (k j : Nat) (bytes : List Byte) :
    Memory.get (cellsFrom k bytes) j =
      if k ≤ j then bytes.getD (j - k) Config.unlistedByte else Config.unlistedByte := by
  induction bytes generalizing k with
  | nil => simp [cellsFrom, Memory.get]
  | cons v r ih =>
    simp only [cellsFrom]
    split
    · rename_i hv
      rw [ih]
      rcases Nat.lt_trichotomy j k with h | h | h
      · rw [if_neg (by omega), if_neg (by omega)]
      · subst h; rw [if_neg (by omega), if_pos (by omega)]; simp [hv]
      · rw [if_pos (by omega), if_pos (by omega)]
        rw [show j - k = (j - (k+1)) + 1 by omega]; rfl
    · simp only [Memory.get, ih]
      rcases Nat.lt_trichotomy j k with h | h | h
      · rw [if_neg (by omega), if_neg (by omega), if_neg (by omega)]
      · subst h; rw [if_pos (by omega), if_pos (by omega)]; simp
      · rw [if_neg (by omega), if_pos (by omega), if_pos (by omega)]
        rw [show j - k = (j - (k+1)) + 1 by omega]; rfl

theorem wf_cellsFrom (k : Nat) (bytes : List Byte) (h : k + bytes.length ≤ 0x8000) :
    Memory.wf (cellsFrom k bytes) = true := by
  induction bytes generalizing k with
  | nil => rfl
  | cons v r ih =>
    simp only [List.length_cons] at h
    have := ih (k+1) (by omega)
    simp only [cellsFrom]
    split
    · exact this
    · refine (wf_cons _ _ _).2 ⟨by simp [ownsStorage]; omega, ‹_›, fun c hc => ?_, this⟩
      have := cellsFrom_ne _ _ c hc
      omega

/-! ### Joined and filtered storage -/

/-- The front of a joined storage answers first. -/
theorem get_append (m m' : Memory) (k : Nat) (h : ∀ c ∈ m, c.2 ≠ Config.unlistedByte) :
    Memory.get (m ++ m') k =
      if Memory.get m k = Config.unlistedByte then Memory.get m' k else Memory.get m k := by
  induction m with
  | nil => simp [Memory.get]
  | cons c r ih =>
    obtain ⟨i, v⟩ := c
    have hv : v ≠ Config.unlistedByte := h (i, v) (by simp)
    have ih := ih fun c hc => h c (List.mem_cons_of_mem _ hc)
    simp only [List.cons_append, Memory.get]
    by_cases hk : i = k
    · simp [hk, hv]
    · simp [hk, ih]

theorem wf_append (m m' : Memory) (h : Memory.wf m = true) (h' : Memory.wf m' = true)
    (hh : ∀ c ∈ m, ∀ c' ∈ m', c.1 < c'.1) : Memory.wf (m ++ m') = true := by
  induction m with
  | nil => exact h'
  | cons c r ih =>
    obtain ⟨i, v⟩ := c
    obtain ⟨ho, hv, hlt, hr⟩ := (wf_cons i v r).1 h
    rw [List.cons_append]
    refine (wf_cons _ _ _).2 ⟨ho, hv, fun d hd => ?_, ih hr fun c hc => hh c (List.mem_cons_of_mem _ hc)⟩
    rcases List.mem_append.1 hd with hd | hd
    · exact hlt d hd
    · exact hh (i, v) (by simp) d hd

theorem get_filter (m : Memory) (p : Nat → Bool) (k : Nat) :
    Memory.get (m.filter fun c => p c.1) k = if p k then Memory.get m k else Config.unlistedByte := by
  induction m with
  | nil => simp [Memory.get]
  | cons c r ih =>
    obtain ⟨i, v⟩ := c
    simp only [List.filter_cons]
    split
    · rename_i h
      simp only [Memory.get, ih]
      by_cases hk : i = k
      · subst hk; simp [h]
      · simp [hk]
    · rename_i h
      rw [ih]
      simp only [Memory.get]
      by_cases hk : i = k
      · subst hk; simp [h]
      · simp [hk]

/-! ### The header -/

theorem isPrintable_iff (v : Byte) : isPrintable v = true ↔ 0x20 ≤ v.toNat ∧ v.toNat ≤ 0x7E := by
  simp [isPrintable]

theorem all_zero_iff (l : List Byte) : l.all (· == 0) = true ↔ ∀ i < l.length, l.getD i 0 = 0 := by
  simp only [List.all_eq_true, beq_iff_eq, List.forall_mem_iff_getElem]
  exact forall₂_congr fun i h => by rw [List.getD_eq_getElem _ _ h]

/-- A valid title (20_memory.md R76), byte by byte: zeros or printable, and nothing printable after a zero. -/
theorem titleValid_iff (l : List Byte) :
    titleValid l = true ↔
      (∀ i < l.length, l.getD i 0 = 0 ∨ isPrintable (l.getD i 0) = true) ∧
        ∀ j < l.length, ∀ i < j, l.getD i 0 = 0 → ¬isPrintable (l.getD j 0) = true := by
  induction l with
  | nil => simp [titleValid]
  | cons v rest ih =>
    simp only [titleValid, List.length_cons, Nat.forall_lt_succ_left, List.getD_cons_zero, List.getD_cons_succ]
    have zero : ¬isPrintable 0 = true := by decide
    split
    · rename_i hv
      rw [all_zero_iff]
      constructor
      · intro h
        refine ⟨⟨.inl hv, fun i hi => .inl (h i hi)⟩, fun i hi => absurd hi (Nat.not_lt_zero i), fun j hj => ?_⟩
        rw [h j hj]
        exact ⟨fun _ => zero, fun _ _ _ => zero⟩
      · intro h i hi
        exact (h.1.2 i hi).resolve_right ((h.2.2 i hi).1 hv)
    · rename_i hv
      rw [Bool.and_eq_true, ih]
      constructor
      · rintro ⟨hp, h1, h2⟩
        exact ⟨⟨.inr hp, h1⟩, fun i hi => absurd hi (Nat.not_lt_zero i), fun j hj => ⟨fun h => absurd h hv, h2 j hj⟩⟩
      · intro h
        exact ⟨h.1.1.resolve_left hv, h.1.2, fun j hj => (h.2.2 j hj).2⟩

/-! ### Mapping and launching -/

/-- What each cell holds once a cartridge is mapped (20_memory.md R80). -/
theorem get_mapCartridge (s : State) (cart : Cartridge) (hl : cart.rom.length ≤ 0x8000) (k : Nat) :
    Memory.get (s.mapCartridge cart).mem k = if k < 0x8000 then cart.rom.getD k 0 else Memory.get s.mem k := by
  show Memory.get (cellsFrom 0 (cart.rom.take 0x8000) ++ s.mem.filter (fun cell => 0x8000 ≤ cell.1)) k = _
  rw [List.take_of_length_le hl, get_append _ _ _ fun c hc => (cellsFrom_ne 0 _ c hc).1, get_cellsFrom]
  rw [if_pos (Nat.zero_le k), get_filter s.mem (fun n => 0x8000 ≤ n) k]
  rw [Nat.sub_zero]
  by_cases hk : k < 0x8000
  · rw [if_pos hk]
    split
    · rename_i h; rw [if_neg (by simp; omega)]; exact h.symm
    · rfl
  · rw [if_neg hk]
    have : cart.rom.getD k Config.unlistedByte = Config.unlistedByte := by
      rw [List.getD_eq_getElem?_getD, List.getElem?_eq_none (by omega)]; rfl
    rw [if_pos this, if_pos (by simp; omega)]

/-- A load that succeeds had at least 0x8000 bytes (20_memory.md R75). -/
theorem checkHeader_size (size : Nat) (f : Nat → Byte) (x : Nat × Nat) (h : checkHeader size f = .ok x) :
    0x8000 ≤ size := by
  unfold checkHeader at h
  split at h
  · simp at h
  · omega

/-- Mapping a cartridge keeps the canonical form. -/
theorem wf_mapCartridge (s : State) (cart : Cartridge) (h : Memory.wf s.mem = true) :
    Memory.wf (s.mapCartridge cart).mem = true := by
  refine wf_append _ _ (wf_cellsFrom _ _ (by simp)) (wf_filter _ _ h) fun c hc c' hc' => ?_
  have h1 := cellsFrom_ne _ _ c hc
  have h2 := List.of_mem_filter hc'
  simp at h1 h2
  omega

/-- The storage `INIT_MEM` gives is in canonical form, whatever list it is given as. -/
theorem wf_initialStorage (initMem : List Host.Cell) : Memory.wf (initialStorage initMem) = true := by
  have h : ∀ (l : List Host.Cell) (acc : Memory), Memory.wf acc = true →
      Memory.wf (l.foldl (fun m cell =>
        if 0x8000 ≤ cell.1 && ownsStorage cell.1 then Memory.set m cell.1 cell.2 else m) acc) = true := by
    intro l
    induction l with
    | nil => exact fun _ h => h
    | cons c r ih =>
      intro acc h
      rw [List.foldl_cons]
      apply ih
      split
      · rename_i hc
        rw [Bool.and_eq_true] at hc
        exact wf_set _ _ _ hc.2 h
      · exact h
  exact h initMem [] rfl

/-- Placing a byte keeps the canonical form. -/
theorem wf_poke (s : State) (addr : Word) (v : Byte) (h : Memory.wf s.mem = true) :
    Memory.wf (s.poke addr v).mem = true := by
  unfold State.poke
  split
  · rename_i k hk; exact wf_set _ _ _ (slot_owns _ addr k (.inr hk)) h
  · rename_i k hk; exact wf_set _ _ _ (slot_owns _ addr k (.inl hk)) h
  · exact h

theorem wf_pokeBytes (s : State) (addr : Word) (bytes : List Byte) (h : Memory.wf s.mem = true) :
    Memory.wf (s.pokeBytes addr bytes).mem = true := by
  induction bytes generalizing s addr with
  | nil => exact h
  | cons v rest ih => exact ih _ _ (wf_poke s addr v h)

end Sys2Proof.Machine
end

