-- ==== Sys2Proof/Laws/Decode.lean ====
section
/-! SUPPORT. What proofs about the decoder cite: case analysis over a byte, the length, and the list decoder. -/

namespace Sys2Proof

/-- Case analysis over the 256 bytes. -/
theorem forall_byte (P : Byte → Prop) (h : ∀ k : Fin 256, P (BitVec.ofFin k)) (v : Byte) : P v := h v.toFin

/-- The decoder reads the extended row where the opcode is 0xCB, and nothing of the next byte but that. -/
theorem decodeFetched_prefix (b1 b2 : Byte) : decodeFetched 0xCB b1 b2 = decodeExtended b1 := rfl

/-- Every opcode is 1, 2 or 3 bytes long (30_encoding.md R100). -/
theorem opLength_range (op : Byte) : 1 ≤ opLength op ∧ opLength op ≤ 3 := by
  unfold opLength
  split
  · exact ⟨by omega, by omega⟩
  · split <;> exact ⟨by omega, by omega⟩

/-- The list decoder where enough bytes follow the opcode. -/
theorem decode_cons (op : Byte) (rest : List Byte) (h : opLength op ≤ rest.length + 1) :
    decode (op :: rest) = .ok (decodeFetched op (rest.getD 0 0) (rest.getD 1 0), rest.drop (opLength op - 1)) := by
  rw [decode, if_neg (by omega)]

/-- The list decoder where it succeeds. -/
theorem decode_ok (bytes : List Byte) (i : Instr) (rest : List Byte) (h : decode bytes = .ok (i, rest)) :
    ∃ op tail, bytes = op :: tail ∧ opLength op ≤ tail.length + 1 ∧
      i = decodeFetched op (tail.getD 0 0) (tail.getD 1 0) ∧ rest = tail.drop (opLength op - 1) := by
  cases bytes with
  | nil => simp [decode] at h
  | cons op tail =>
    rw [decode] at h
    split at h
    · simp at h
    · injection h with h
      injection h with h1 h2
      exact ⟨op, tail, rfl, by omega, h1.symm, h2.symm⟩

end Sys2Proof
end

