-- ==== Sys2Proof/Laws/Flags.lean ====
section
/-! SUPPORT. The result and flag computations in numbers. -/

namespace Sys2Proof.Machine

theorem carryNat_eq (c : Bool) : carryNat c = c.toNat := by cases c <;> rfl

theorem byte_beq_zero (v : Byte) : (v == 0) = decide (v.toNat = 0) := by
  rw [Bool.eq_iff_iff, beq_iff_eq, decide_eq_true_iff, BitVec.toNat_eq]
  rfl

theorem add8_r (a b : Byte) : (add8 a b).r.toNat = (a.toNat + b.toNat) % 256 := BitVec.toNat_add a b

theorem adc8_r (a b : Byte) (cin : Bool) :
    (adc8 a b cin).r.toNat = (a.toNat + b.toNat + cin.toNat) % 256 := by
  simp [adc8, carryNat_eq]

theorem sub8_r (a b : Byte) : (sub8 a b).r.toNat = (a.toNat + 256 - b.toNat) % 256 := by
  have := a.isLt
  have := b.isLt
  show (a - b).toNat = _
  rw [BitVec.toNat_sub]
  omega

theorem sbc8_r (a b : Byte) (cin : Bool) :
    (sbc8 a b cin).r.toNat = (a.toNat + 512 - b.toNat - cin.toNat) % 256 := by
  have := a.isLt
  have := b.isLt
  show (a - b - BitVec.ofNat 8 (carryNat cin)).toNat = _
  rw [BitVec.toNat_sub, BitVec.toNat_sub, BitVec.toNat_ofNat, carryNat_eq]
  cases cin <;> simp only [Bool.toNat_true, Bool.toNat_false] <;> omega

theorem inc8_r (a : Byte) (c : Bool) : (inc8 a c).r.toNat = (a.toNat + 1) % 256 := BitVec.toNat_add a 1

theorem dec8_r (a : Byte) (c : Bool) : (dec8 a c).r.toNat = (a.toNat + 255) % 256 := by
  have := a.isLt
  show (a - 1).toNat = _
  rw [BitVec.toNat_sub]
  show (2 ^ 8 - 1 + a.toNat) % 2 ^ 8 = _
  omega

/-- Z is the test of the result, in every operation (42_alu_8bit.md R250 to R257). -/
theorem aluCompute_z (op : AluOp) (a b : Byte) (cin : Bool) :
    (aluCompute op a b cin).z = decide ((aluCompute op a b cin).r.toNat = 0) := by
  cases op <;> exact byte_beq_zero _

/-- CP is SUB (42_alu_8bit.md R281). -/
theorem aluCompute_cp (a b : Byte) (cin : Bool) : aluCompute .cp a b cin = aluCompute .sub a b cin := rfl

/-- One bit cleared, the others as they were (44_rotate_shift_bit.md R373). -/
theorem and_not_bit (v : Byte) (b k : Fin 8) :
    (v &&& ~~~(1#8 <<< b.val)).getLsbD k = if k = b then false else v.getLsbD k := by
  have hk := k.isLt
  have hb := b.isLt
  simp only [BitVec.getLsbD_and, BitVec.getLsbD_not, BitVec.getLsbD_shiftLeft, BitVec.getLsbD_one, hk,
    decide_true, Bool.true_and]
  by_cases h : k = b
  · subst h; simp
  · have : k.val ≠ b.val := fun he => h (Fin.ext he)
    rw [if_neg h]
    by_cases hlt : k.val < b.val
    · simp [hlt]
    · have : k.val - b.val ≠ 0 := by omega
      simp [this]

/-- One bit set, the others as they were (44_rotate_shift_bit.md R375). -/
theorem or_bit (v : Byte) (b k : Fin 8) :
    (v ||| (1#8 <<< b.val)).getLsbD k = if k = b then true else v.getLsbD k := by
  have hk := k.isLt
  have hb := b.isLt
  simp only [BitVec.getLsbD_or, BitVec.getLsbD_shiftLeft, BitVec.getLsbD_one, hk, decide_true, Bool.true_and]
  by_cases h : k = b
  · subst h; simp
  · have : k.val ≠ b.val := fun he => h (Fin.ext he)
    rw [if_neg h]
    by_cases hlt : k.val < b.val
    · simp [hlt]
    · have : k.val - b.val ≠ 0 := by omega
      simp [this]

end Sys2Proof.Machine
end

