-- ==== Sys2Proof/Laws/Ops.lean ====
section
/-! SUPPORT. What the named operations keep: the ROM region, the cartridge, the canonical form and F's low nibble
(`Keeps`), and the control state (`ControlKept`); and what the stack and the interrupt operations leave. -/

namespace Sys2Proof.Machine

/-! ### What every operation of the machine keeps -/

/-- The part of `State.Inv` and of the fixed state that no operation breaks. -/
structure Keeps (s t : State) : Prop where
  rom : ∀ addr : Word, addr.toNat < 0x8000 → t.read addr = s.read addr
  banks : t.ramBanks = s.ramBanks
  bugMode : t.haltBugMode = s.haltBugMode
  lowNibble : s.f &&& 0x0F = 0 → t.f &&& 0x0F = 0
  storage : Memory.wf s.mem = true → Memory.wf t.mem = true

theorem Keeps.refl (s : State) : Keeps s s := ⟨fun _ _ => rfl, rfl, rfl, id, id⟩

theorem Keeps.trans {s t u : State} (h : Keeps s t) (g : Keeps t u) : Keeps s u :=
  ⟨fun a ha => (g.rom a ha).trans (h.rom a ha), g.banks.trans h.banks, g.bugMode.trans h.bugMode,
    fun x => g.lowNibble (h.lowNibble x), fun x => g.storage (h.storage x)⟩

/-- An update of anything but F, the storage, the cartridge and the launch parameter. -/
theorem Keeps.of_eq {s t : State} (hm : t.mem = s.mem) (hr : t.ramBanks = s.ramBanks)
    (hb : t.haltBugMode = s.haltBugMode) (hf : s.f &&& 0x0F = 0 → t.f &&& 0x0F = 0) : Keeps s t :=
  ⟨fun a _ => read_congr s t hm hr a, hr, hb, hf, fun h => hm ▸ h⟩

theorem mask_lowNibble (v : Byte) : v &&& 0xF0 &&& 0x0F = 0 := by
  rw [BitVec.and_assoc]; simp

variable (s : State)

theorem keeps_setReg (r : Reg8) (v : Byte) : Keeps s (s.setReg r v) := .of_eq (by simp) (by simp) (by simp) (by simp)

theorem keeps_setF (v : Byte) : Keeps s (s.setF v) := .of_eq rfl rfl rfl fun _ => mask_lowNibble v

theorem keeps_setFlags (z n h c : Bool) : Keeps s (s.setFlags z n h c) := keeps_setF s _

theorem keeps_setSp (v : Word) : Keeps s (s.setSp v) := .of_eq rfl rfl rfl id

theorem keeps_setPc (v : Word) : Keeps s (s.setPc v) := .of_eq rfl rfl rfl id

theorem keeps_charge (n : Nat) : Keeps s (s.charge n) := .of_eq rfl rfl rfl id

theorem keeps_setBc (v : Word) : Keeps s (s.setBc v) := .of_eq rfl rfl rfl id

theorem keeps_setDe (v : Word) : Keeps s (s.setDe v) := .of_eq rfl rfl rfl id

theorem keeps_setHl (v : Word) : Keeps s (s.setHl v) := .of_eq rfl rfl rfl id

theorem keeps_setAf (v : Word) : Keeps s (s.setAf v) := .of_eq rfl rfl rfl fun _ => mask_lowNibble _

theorem keeps_setPair (p : Pair) (v : Word) : Keeps s (s.setPair p v) := by
  cases p
  exacts [keeps_setBc s v, keeps_setDe s v, keeps_setHl s v, keeps_setSp s v]

theorem keeps_setStkPair (p : StkPair) (v : Word) : Keeps s (s.setStkPair p v) := by
  cases p
  exacts [keeps_setBc s v, keeps_setDe s v, keeps_setHl s v, keeps_setAf s v]

theorem keeps_write (addr : Word) (v : Byte) : Keeps s (s.write addr v) :=
  ⟨fun o ho => write_keeps_rom s addr o v ho, by simp, by simp, by simp, wf_write s addr v⟩

theorem keeps_write16 (addr : Word) (v : Word) : Keeps s (s.write16 addr v) :=
  (keeps_write s _ _).trans (keeps_write _ _ _)

theorem keeps_pushByte (v : Byte) : Keeps s (s.pushByte v) := (keeps_setSp s _).trans (keeps_write _ _ _)

theorem keeps_push16 (v : Word) : Keeps s (s.push16 v) := (keeps_pushByte s _).trans (keeps_pushByte _ _)

theorem keeps_dispatch : Keeps s s.dispatch := by
  have h : Keeps s s.dispatchHigh :=
    (Keeps.of_eq (s := s) (t := { s with ime := false, eiPending := false, haltBug := false }) rfl rfl rfl id).trans
      (keeps_pushByte _ _)
  unfold State.dispatch
  simp only []
  split
  · exact (h.trans (keeps_pushByte _ _)).trans (keeps_setPc _ _)
  · exact ((h.trans (keeps_pushByte _ _)).trans (keeps_write _ _ _)).trans (keeps_setPc _ _)

theorem keeps_returnFromInterrupt : Keeps s s.returnFromInterrupt := .of_eq rfl rfl rfl id

/-! ### The control state -/

theorem ControlKept.refl : ControlKept s s := ⟨rfl, rfl, rfl, rfl, rfl, rfl, rfl, rfl⟩

theorem ControlKept.trans {s t u : State} (h : ControlKept s t) (g : ControlKept t u) : ControlKept s u := by
  obtain ⟨h1, h2, h3, h4, h5, h6, h7, h8⟩ := h
  obtain ⟨g1, g2, g3, g4, g5, g6, g7, g8⟩ := g
  exact ⟨g1.trans h1, g2.trans h2, g3.trans h3, g4.trans h4, g5.trans h5, g6.trans h6, g7.trans h7, g8.trans h8⟩

theorem controlKept_setReg (r : Reg8) (v : Byte) : ControlKept s (s.setReg r v) := by simp [ControlKept]

theorem controlKept_setF (v : Byte) : ControlKept s (s.setF v) := .refl _

theorem controlKept_setFlags (z n h c : Bool) : ControlKept s (s.setFlags z n h c) := .refl _

theorem controlKept_setSp (v : Word) : ControlKept s (s.setSp v) := .refl _

theorem controlKept_setPc (v : Word) : ControlKept s (s.setPc v) := .refl _

theorem controlKept_charge (n : Nat) : ControlKept s (s.charge n) := .refl _

theorem controlKept_setPair (p : Pair) (v : Word) : ControlKept s (s.setPair p v) := by cases p <;> exact .refl _

theorem controlKept_setStkPair (p : StkPair) (v : Word) : ControlKept s (s.setStkPair p v) := by
  cases p <;> exact .refl _

theorem controlKept_write (addr : Word) (v : Byte) : ControlKept s (s.write addr v) := by simp [ControlKept]

theorem controlKept_write16 (addr : Word) (v : Word) : ControlKept s (s.write16 addr v) :=
  (controlKept_write s _ _).trans (controlKept_write _ _ _)

theorem controlKept_push16 (v : Word) : ControlKept s (s.push16 v) :=
  ((controlKept_setSp s _).trans (controlKept_write _ _ _)).trans
    ((controlKept_setSp _ _).trans (controlKept_write _ _ _))

/-! ### The stack -/

/-- SP after the two decrements of a push. -/
theorem sub_one_sub_one (w : Word) : w - 1 - 1 = w - 2 := by bv_omega

theorem add_one_add_one (w : Word) : w + 1 + 1 = w + 2 := by bv_omega

theorem sub_two_add_one (w : Word) : w - 2 + 1 = w - 1 := by bv_omega

/-- A push: SP down by two, the two bytes stored, nothing else. -/
theorem push16_eq (v : Word) :
    s.push16 v = ((s.write (s.sp - 1) (hiByte v)).write (s.sp - 2) (loByte v)).setSp (s.sp - 2) := by
  have hw : ∀ (u : State) (a : Word) (b : Byte) (p : Word), (u.setSp p).write a b = (u.write a b).setSp p := by
    intro u a b p
    simp only [State.write, setSp_ramBanks]
    cases slot u.ramBanks a <;> rfl
  unfold State.push16 State.pushByte
  simp only [hw, setSp_sp, sub_one_sub_one]
  rfl

/-- A push stores its word at the new SP, low byte first in memory (41_loads_16bit.md R203). -/
theorem storedWord_push16 (v : Word) : StoredWord (s.sp - 2) v s (s.push16 v) := by
  have hne : cellAddress (s.sp - 2) ≠ cellAddress (s.sp - 1) := by
    intro he
    have h1 := congrArg BitVec.toNat he
    have hlt := s.sp.isLt
    have e1 : (s.sp - 1).toNat = (65535 + s.sp.toNat) % 65536 := by rw [BitVec.toNat_sub]; rfl
    have e2 : (s.sp - 2).toNat = (65534 + s.sp.toNat) % 65536 := by rw [BitVec.toNat_sub]; rfl
    rw [cellAddress_toNat, cellAddress_toNat, e1, e2] at h1
    split at h1 <;> split at h1 <;> omega
  rw [push16_eq]
  have hhi := stored_write s (s.sp - 1) (hiByte v)
  have hlo := stored_write (s.write (s.sp - 1) (hiByte v)) (s.sp - 2) (loByte v)
  unfold StoredWord
  rw [sub_two_add_one]
  simp only [setSp_read]
  refine ⟨fun h => ?_, fun h => ?_, fun h => ?_, fun h => ?_, fun o h1 h2 => ?_⟩
  · rw [hlo.1 ((writable_write s _ _ _).2 h), loByte_toNat]
  · rw [hlo.2.2 _ (Ne.symm hne), hhi.1 h, hiByte_toNat]
  · rw [hlo.2.1 (fun h' => h ((writable_write s _ _ _).1 h')), hhi.2.2 _ hne]
  · rw [hlo.2.2 _ (Ne.symm hne), hhi.2.1 h]
  · rw [hlo.2.2 o h1, hhi.2.2 o h2]

/-! ### Interrupts -/

/-- A dispatch, with its two pushes as plain bus writes (60_exceptions.md R503). -/
theorem dispatch_eq :
    s.dispatch =
      (let high := s.write (s.sp - 1) (hiByte s.returnAddress)
       let low := high.write (s.sp - 2) (loByte s.returnAddress)
       let p := high.pending
       let answered := if p = 0 then low else low.write addrIF (low.read addrIF &&& ~~~(1#8 <<< lowestSource p))
       { answered with
         ime := false, eiPending := false, haltBug := false, sp := s.sp - 2,
         pc := if p = 0 then 0x0000 else vector (lowestSource p) }) := by
  have hw : ∀ (u : State) (a : Word) (b : Byte) (p : Word),
      { u with ime := false, eiPending := false, haltBug := false, sp := p }.write a b =
        { u.write a b with ime := false, eiPending := false, haltBug := false, sp := p } := by
    intro u a b p
    unfold State.write
    cases slot u.ramBanks a <;> simp
  have hhigh : s.dispatchHigh =
      { s.write (s.sp - 1) (hiByte s.returnAddress) with
        ime := false, eiPending := false, haltBug := false, sp := s.sp - 1 } := by
    rw [State.dispatchHigh, State.pushByte]
    exact hw s _ _ _
  have hlow : s.dispatchHigh.pushByte (loByte s.returnAddress) =
      { (s.write (s.sp - 1) (hiByte s.returnAddress)).write (s.sp - 2) (loByte s.returnAddress) with
        ime := false, eiPending := false, haltBug := false, sp := s.sp - 2 } := by
    rw [hhigh, State.pushByte]
    show State.write { s.write (s.sp - 1) (hiByte s.returnAddress) with
        ime := false, eiPending := false, haltBug := false, sp := s.sp - 1 - 1 } (s.sp - 1 - 1) _ = _
    rw [hw, sub_one_sub_one]
  have hp : s.dispatchHigh.pending = (s.write (s.sp - 1) (hiByte s.returnAddress)).pending := by
    rw [hhigh]; rfl
  rw [State.dispatch]
  simp only [hp, hlow]
  split
  · rfl
  · rw [hw]; rfl

/-- The lowest set bit (60_exceptions.md R504). -/
theorem lowestSource_spec (p : Byte) (n : Fin 5) (hn : p.getLsbD n = true)
    (hm : ∀ m : Fin 5, m < n → p.getLsbD m = false) : lowestSource p = n.val := by
  have h0 := hm 0
  have h1 := hm 1
  have h2 := hm 2
  have h3 := hm 3
  unfold lowestSource
  match n with
  | ⟨0, _⟩ => simp_all
  | ⟨1, _⟩ => simp_all
  | ⟨2, _⟩ => simp_all
  | ⟨3, _⟩ => simp_all
  | ⟨4, _⟩ => simp_all

end Sys2Proof.Machine
end

