-- ==== Sys2Proof/Laws/Meanings.lean ====
section
/-! SUPPORT. What the shared operations of the meanings answer: each completes, keeps what `Keeps` and `ControlKept`
name, and costs 1 to 6 machine cycles (`Ordinary`); the operations that touch the control state are given whole. -/

namespace Sys2Proof.Machine

/-- An answer that is a next state which keeps ROM, the cartridge, the canonical form, F's low nibble and the control
state, at a cost of 1 to 6 machine cycles. -/
def Ordinary (s : State) (r : Result) : Prop :=
  ∃ t, r = .next t ∧ Keeps s t ∧ ControlKept s t ∧ ∃ k, 1 ≤ k ∧ k ≤ 6 ∧ t.cycles = s.cycles + 4 * k

/-- An operation that ends in `done` is ordinary where its body keeps everything but the cycle counter. -/
theorem ordinary_done {s t : State} (n : Nat) (hn : n ∈ [4, 8, 12, 16, 20, 24]) (hk : Keeps s t)
    (hc : ControlKept s t) (hcy : t.cycles = s.cycles) : Ordinary s (done n t) := by
  refine ⟨t.charge n, rfl, hk.trans (keeps_charge _ _), hc.trans (controlKept_charge _ _), n / 4, ?_⟩
  rw [charge_cycles, hcy]
  simp only [List.mem_cons, List.not_mem_nil, or_false] at hn
  rcases hn with rfl | rfl | rfl | rfl | rfl | rfl <;> exact ⟨by decide, by decide, rfl⟩

/-! ### The cycle counter -/

theorem setPair_cycles (s : State) (p : Pair) (v : Word) : (s.setPair p v).cycles = s.cycles := by cases p <;> rfl

theorem setStkPair_cycles (s : State) (p : StkPair) (v : Word) : (s.setStkPair p v).cycles = s.cycles := by
  cases p <;> rfl

theorem push16_cycles (s : State) (v : Word) : (s.push16 v).cycles = s.cycles := by
  simp [State.push16, State.pushByte]

variable (s : State)

/-! ### Loads -/

theorem ordinary_loadReg (dst src : Reg8) : Ordinary s (loadReg dst src s) :=
  ordinary_done 4 (by decide) (keeps_setReg s _ _) (controlKept_setReg s _ _) (by simp)

theorem ordinary_loadImm (dst : Reg8) (n : Byte) : Ordinary s (loadImm dst n s) :=
  ordinary_done 8 (by decide) (keeps_setReg s _ _) (controlKept_setReg s _ _) (by simp)

theorem ordinary_loadMem (cost : Nat) (hc : cost ∈ [4, 8, 12, 16, 20, 24]) (dst : Reg8) (addr : Word) :
    Ordinary s (loadMem cost dst addr s) :=
  ordinary_done cost hc (keeps_setReg s _ _) (controlKept_setReg s _ _) (by simp)

theorem ordinary_storeMem (cost : Nat) (hc : cost ∈ [4, 8, 12, 16, 20, 24]) (addr : Word) (v : Byte) :
    Ordinary s (storeMem cost addr v s) :=
  ordinary_done cost hc (keeps_write s _ _) (controlKept_write s _ _) (by simp)

theorem ordinary_loadHlThen (next : Word) : Ordinary s (loadHlThen next s) :=
  ordinary_done 8 (by decide) ((keeps_setReg s _ _).trans (keeps_setHl _ _))
    ((controlKept_setReg s _ _).trans (.refl _)) rfl

theorem ordinary_storeHlThen (next : Word) : Ordinary s (storeHlThen next s) :=
  ordinary_done 8 (by decide) ((keeps_write s _ _).trans (keeps_setHl _ _))
    ((controlKept_write s _ _).trans (.refl _)) (by simp [State.writeHl])

theorem ordinary_loadPair (p : Pair) (nn : Word) : Ordinary s (loadPair p nn s) :=
  ordinary_done 12 (by decide) (keeps_setPair s _ _) (controlKept_setPair s _ _) (setPair_cycles s _ _)

theorem ordinary_pushPair (p : StkPair) : Ordinary s (pushPair p s) :=
  ordinary_done 16 (by decide) (keeps_push16 s _) (controlKept_push16 s _) (push16_cycles s _)

theorem ordinary_popPair (p : StkPair) : Ordinary s (popPair p s) :=
  ordinary_done 12 (by decide) ((keeps_setSp s _).trans (keeps_setStkPair _ _ _))
    ((controlKept_setSp s _).trans (controlKept_setStkPair _ _ _)) (setStkPair_cycles _ _ _)

theorem ordinary_loadHlSp (e : Byte) : Ordinary s (loadHlSp e s) :=
  ordinary_done 12 (by decide) ((keeps_setHl s _).trans (keeps_setFlags _ _ _ _ _)) (.refl _) rfl

/-! ### Arithmetic and logic -/

theorem keeps_aluApply (op : AluOp) (b : Byte) : Keeps s (s.aluApply op b) := by
  cases op
  case cp => exact keeps_setFlags _ _ _ _ _
  all_goals exact (keeps_setReg s _ _).trans (keeps_setFlags _ _ _ _ _)

theorem controlKept_aluApply (op : AluOp) (b : Byte) : ControlKept s (s.aluApply op b) := by
  cases op <;> exact .refl _

theorem aluApply_cycles (op : AluOp) (b : Byte) : (s.aluApply op b).cycles = s.cycles := by cases op <;> rfl

theorem ordinary_aluReg (op : AluOp) (src : Reg8) : Ordinary s (aluReg op src s) :=
  ordinary_done 4 (by decide) (keeps_aluApply s _ _) (controlKept_aluApply s _ _) (aluApply_cycles s _ _)

theorem ordinary_aluMem (op : AluOp) : Ordinary s (aluMem op s) :=
  ordinary_done 8 (by decide) (keeps_aluApply s _ _) (controlKept_aluApply s _ _) (aluApply_cycles s _ _)

theorem ordinary_aluImm (op : AluOp) (n : Byte) : Ordinary s (aluImm op n s) :=
  ordinary_done 8 (by decide) (keeps_aluApply s _ _) (controlKept_aluApply s _ _) (aluApply_cycles s _ _)

/-- A register write followed by a flag write. -/
theorem ordinary_regFlags (cost : Nat) (hc : cost ∈ [4, 8, 12, 16, 20, 24]) (r : Reg8) (v : Byte) (z n h c : Bool) :
    Ordinary s (done cost ((s.setReg r v).setFlags z n h c)) :=
  ordinary_done cost hc ((keeps_setReg s _ _).trans (keeps_setFlags _ _ _ _ _))
    ((controlKept_setReg s _ _).trans (.refl _)) (by simp)

/-- A byte store at HL followed by a flag write. -/
theorem ordinary_memFlags (cost : Nat) (hc : cost ∈ [4, 8, 12, 16, 20, 24]) (v : Byte) (z n h c : Bool) :
    Ordinary s (done cost ((s.writeHl v).setFlags z n h c)) :=
  ordinary_done cost hc ((keeps_write s _ _).trans (keeps_setFlags _ _ _ _ _))
    ((controlKept_write s _ _).trans (.refl _)) (by simp [State.writeHl])

/-- A flag write alone. -/
theorem ordinary_flags (cost : Nat) (hc : cost ∈ [4, 8, 12, 16, 20, 24]) (z n h c : Bool) :
    Ordinary s (done cost (s.setFlags z n h c)) :=
  ordinary_done cost hc (keeps_setFlags _ _ _ _ _) (.refl _) rfl

theorem ordinary_incReg (r : Reg8) : Ordinary s (incReg r s) := ordinary_regFlags s 4 (by decide) _ _ _ _ _ _

theorem ordinary_decReg (r : Reg8) : Ordinary s (decReg r s) := ordinary_regFlags s 4 (by decide) _ _ _ _ _ _

theorem ordinary_incMem : Ordinary s (incMem s) := ordinary_memFlags s 12 (by decide) _ _ _ _ _

theorem ordinary_decMem : Ordinary s (decMem s) := ordinary_memFlags s 12 (by decide) _ _ _ _ _

theorem ordinary_decimalAdjust : Ordinary s (decimalAdjust s) := ordinary_regFlags s 4 (by decide) _ _ _ _ _ _

theorem ordinary_complementA : Ordinary s (complementA s) := ordinary_regFlags s 4 (by decide) _ _ _ _ _ _

theorem ordinary_setCarry : Ordinary s (setCarry s) := ordinary_flags s 4 (by decide) _ _ _ _

theorem ordinary_complementCarry : Ordinary s (complementCarry s) := ordinary_flags s 4 (by decide) _ _ _ _

theorem ordinary_addHlPair (p : Pair) : Ordinary s (addHlPair p s) :=
  ordinary_done 8 (by decide) ((keeps_setHl s _).trans (keeps_setFlags _ _ _ _ _)) (.refl _) rfl

theorem ordinary_incPair (p : Pair) : Ordinary s (incPair p s) :=
  ordinary_done 8 (by decide) (keeps_setPair s _ _) (controlKept_setPair s _ _) (setPair_cycles s _ _)

theorem ordinary_decPair (p : Pair) : Ordinary s (decPair p s) :=
  ordinary_done 8 (by decide) (keeps_setPair s _ _) (controlKept_setPair s _ _) (setPair_cycles s _ _)

theorem ordinary_addSpOffset (e : Byte) : Ordinary s (addSpOffset e s) :=
  ordinary_done 16 (by decide) ((keeps_setSp s _).trans (keeps_setFlags _ _ _ _ _)) (.refl _) rfl

/-! ### Rotates, shifts and bits -/

theorem ordinary_rotateA (op : ShiftOp) : Ordinary s (rotateA op s) := ordinary_regFlags s 4 (by decide) _ _ _ _ _ _

theorem ordinary_shiftReg (op : ShiftOp) (r : Reg8) : Ordinary s (shiftReg op r s) :=
  ordinary_regFlags s 8 (by decide) _ _ _ _ _ _

theorem ordinary_shiftMem (op : ShiftOp) : Ordinary s (shiftMem op s) := ordinary_memFlags s 16 (by decide) _ _ _ _ _

theorem ordinary_testBitReg (b : Fin 8) (r : Reg8) : Ordinary s (testBitReg b r s) :=
  ordinary_flags s 8 (by decide) _ _ _ _

theorem ordinary_testBitMem (b : Fin 8) : Ordinary s (testBitMem b s) := ordinary_flags s 12 (by decide) _ _ _ _

theorem ordinary_clearBitReg (b : Fin 8) (r : Reg8) : Ordinary s (clearBitReg b r s) :=
  ordinary_done 8 (by decide) (keeps_setReg s _ _) (controlKept_setReg s _ _) (by simp)

theorem ordinary_clearBitMem (b : Fin 8) : Ordinary s (clearBitMem b s) :=
  ordinary_done 16 (by decide) (keeps_write s _ _) (controlKept_write s _ _) (by simp [State.writeHl])

theorem ordinary_setBitReg (b : Fin 8) (r : Reg8) : Ordinary s (setBitReg b r s) :=
  ordinary_done 8 (by decide) (keeps_setReg s _ _) (controlKept_setReg s _ _) (by simp)

theorem ordinary_setBitMem (b : Fin 8) : Ordinary s (setBitMem b s) :=
  ordinary_done 16 (by decide) (keeps_write s _ _) (controlKept_write s _ _) (by simp [State.writeHl])

theorem ordinary_runExtended (sub : Byte) : Ordinary s (runExtended sub s) := by
  unfold runExtended
  split
  · exact ordinary_shiftReg s _ _
  · exact ordinary_shiftMem s _
  · exact ordinary_testBitReg s _ _
  · exact ordinary_testBitMem s _
  · exact ordinary_clearBitReg s _ _
  · exact ordinary_clearBitMem s _
  · exact ordinary_setBitReg s _ _
  · exact ordinary_setBitMem s _

/-! ### Control transfer -/

theorem ordinary_setPc (cost : Nat) (hc : cost ∈ [4, 8, 12, 16, 20, 24]) (v : Word) :
    Ordinary s (done cost (s.setPc v)) :=
  ordinary_done cost hc (keeps_setPc s v) (.refl _) rfl

theorem ordinary_same (cost : Nat) (hc : cost ∈ [4, 8, 12, 16, 20, 24]) : Ordinary s (done cost s) :=
  ordinary_done cost hc (.refl s) (.refl s) rfl

theorem ordinary_setSp (cost : Nat) (hc : cost ∈ [4, 8, 12, 16, 20, 24]) (v : Word) :
    Ordinary s (done cost (s.setSp v)) :=
  ordinary_done cost hc (keeps_setSp s v) (.refl _) rfl

theorem ordinary_write16 (cost : Nat) (hc : cost ∈ [4, 8, 12, 16, 20, 24]) (addr v : Word) :
    Ordinary s (done cost (s.write16 addr v)) :=
  ordinary_done cost hc (keeps_write16 s _ _) (controlKept_write16 s _ _) (by simp [State.write16])

theorem ordinary_call (cost : Nat) (hc : cost ∈ [4, 8, 12, 16, 20, 24]) (target : Word) :
    Ordinary s (done cost (s.call target)) :=
  ordinary_done cost hc ((keeps_push16 s _).trans (keeps_setPc _ _))
    ((controlKept_push16 s _).trans (.refl _)) (push16_cycles s _)

theorem ordinary_ret (cost : Nat) (hc : cost ∈ [4, 8, 12, 16, 20, 24]) : Ordinary s (done cost s.ret) :=
  ordinary_done cost hc ((keeps_setSp s _).trans (keeps_setPc _ _)) (.refl _) rfl

theorem ordinary_jumpIf (cc : Cond) (nn : Word) : Ordinary s (jumpIf cc nn s) := by
  unfold jumpIf
  split
  · exact ordinary_setPc s 16 (by decide) _
  · exact ordinary_same s 12 (by decide)

theorem ordinary_jumpRelativeIf (cc : Cond) (e : Byte) : Ordinary s (jumpRelativeIf cc e s) := by
  unfold jumpRelativeIf
  split
  · exact ordinary_setPc s 12 (by decide) _
  · exact ordinary_same s 8 (by decide)

theorem ordinary_callIf (cc : Cond) (nn : Word) : Ordinary s (callIf cc nn s) := by
  unfold callIf
  split
  · exact ordinary_call s 24 (by decide) _
  · exact ordinary_same s 12 (by decide)

theorem ordinary_retIf (cc : Cond) : Ordinary s (retIf cc s) := by
  unfold retIf
  split
  · exact ordinary_ret s 20 (by decide)
  · exact ordinary_same s 8 (by decide)

/-! ### The operations on the control state, whole -/

theorem returnFromInterrupt_next :
    done 16 s.returnFromInterrupt =
      .next { s with pc := s.stackTop, sp := s.sp + 2, ime := true, cycles := s.cycles + 16 } := by
  simp only [done, State.returnFromInterrupt, State.dropStack, add_one_add_one]
  rfl

theorem stopCore_next : stopCore s = .next { s with stopped := true, cycles := s.cycles + 4 } := rfl

theorem enableInterrupts_next : enableInterrupts s = .next { s with eiPending := true, cycles := s.cycles + 4 } := rfl

theorem disableInterrupts_next : disableInterrupts s = .next { s with ime := false, cycles := s.cycles + 4 } := rfl

/-- HALT in its three cases (46_system.md R451). -/
theorem haltCore_cases :
    (¬(s.ime = false ∧ s.hasPending = true) ∧ haltCore s = .next { s with halted := true, cycles := s.cycles + 4 }) ∨
      (s.ime = false ∧ s.hasPending = true ∧ s.haltBugMode = true ∧
        haltCore s = .next { s with haltBug := true, cycles := s.cycles + 4 }) ∨
      (s.ime = false ∧ s.hasPending = true ∧ s.haltBugMode = false ∧
        haltCore s = .next { s with cycles := s.cycles + 4 }) := by
  unfold haltCore
  cases hi : s.ime <;> cases hp : s.hasPending <;> cases hb : s.haltBugMode <;> simp [done, State.charge, hi, hb]

end Sys2Proof.Machine
end

