-- ==== Sys2Proof/Laws/Rows.lean ====
section
/-! SUPPORT. What `exec` runs for a row of the opcode table named by its operand fields: one shared operation. -/

namespace Sys2Proof.Machine

theorem exec_rowLdRR (dst : Reg8) (src : Reg8) (s : State) : exec (rowLdRR dst src) s = loadReg dst src s := by
  cases dst <;> cases src <;> rfl

theorem exec_rowLdRN (dst : Reg8) (n : Byte) (s : State) : exec (rowLdRN dst n) s = loadImm dst n s := by
  cases dst <;> rfl

theorem exec_rowLdRHl (dst : Reg8) (s : State) : exec (rowLdRHl dst) s = loadMem 8 dst s.hl s := by
  cases dst <;> rfl

theorem exec_rowLdHlR (src : Reg8) (s : State) : exec (rowLdHlR src) s = storeMem 8 s.hl (s.reg src) s := by
  cases src <;> rfl

theorem exec_rowLdPairNn (p : Pair) (nn : Word) (s : State) : exec (rowLdPairNn p nn) s = loadPair p nn s := by
  cases p <;> rfl

theorem exec_rowPush (p : StkPair) (s : State) : exec (rowPush p) s = pushPair p s := by
  cases p <;> rfl

theorem exec_rowPop (p : StkPair) (s : State) : exec (rowPop p) s = popPair p s := by
  cases p <;> rfl

theorem exec_rowAluR (op : AluOp) (src : Reg8) (s : State) : exec (rowAluR op src) s = aluReg op src s := by
  cases op <;> cases src <;> rfl

theorem exec_rowAluHl (op : AluOp) (s : State) : exec (rowAluHl op) s = aluMem op s := by
  cases op <;> rfl

theorem exec_rowAluN (op : AluOp) (n : Byte) (s : State) : exec (rowAluN op n) s = aluImm op n s := by
  cases op <;> rfl

theorem exec_rowIncR (r : Reg8) (s : State) : exec (rowIncR r) s = incReg r s := by
  cases r <;> rfl

theorem exec_rowDecR (r : Reg8) (s : State) : exec (rowDecR r) s = decReg r s := by
  cases r <;> rfl

theorem exec_rowAddHl (p : Pair) (s : State) : exec (rowAddHl p) s = addHlPair p s := by
  cases p <;> rfl

theorem exec_rowIncPair (p : Pair) (s : State) : exec (rowIncPair p) s = incPair p s := by
  cases p <;> rfl

theorem exec_rowDecPair (p : Pair) (s : State) : exec (rowDecPair p) s = decPair p s := by
  cases p <;> rfl

theorem exec_rowJpCc (cc : Cond) (nn : Word) (s : State) : exec (rowJpCc cc nn) s = jumpIf cc nn s := by
  cases cc <;> rfl

theorem exec_rowJrCc (cc : Cond) (e : Byte) (s : State) : exec (rowJrCc cc e) s = jumpRelativeIf cc e s := by
  cases cc <;> rfl

theorem exec_rowCallCc (cc : Cond) (nn : Word) (s : State) : exec (rowCallCc cc nn) s = callIf cc nn s := by
  cases cc <;> rfl

theorem exec_rowRetCc (cc : Cond) (s : State) : exec (rowRetCc cc) s = retIf cc s := by
  cases cc <;> rfl

theorem exec_rowShiftR (op : ShiftOp) (r : Reg8) (s : State) : exec (rowShiftR op r) s = shiftReg op r s := by
  cases op <;> cases r <;> rfl

theorem exec_rowShiftHl (op : ShiftOp) (s : State) : exec (rowShiftHl op) s = shiftMem op s := by
  cases op <;> rfl

theorem exec_rowBitR (b : Fin 8) (r : Reg8) (s : State) : exec (rowBitR b r) s = testBitReg b r s :=
  match b with
  | 0 => by cases r <;> rfl
  | 1 => by cases r <;> rfl
  | 2 => by cases r <;> rfl
  | 3 => by cases r <;> rfl
  | 4 => by cases r <;> rfl
  | 5 => by cases r <;> rfl
  | 6 => by cases r <;> rfl
  | 7 => by cases r <;> rfl

theorem exec_rowBitHl (b : Fin 8) (s : State) : exec (rowBitHl b) s = testBitMem b s :=
  match b with
  | 0 => rfl
  | 1 => rfl
  | 2 => rfl
  | 3 => rfl
  | 4 => rfl
  | 5 => rfl
  | 6 => rfl
  | 7 => rfl

theorem exec_rowResR (b : Fin 8) (r : Reg8) (s : State) : exec (rowResR b r) s = clearBitReg b r s :=
  match b with
  | 0 => by cases r <;> rfl
  | 1 => by cases r <;> rfl
  | 2 => by cases r <;> rfl
  | 3 => by cases r <;> rfl
  | 4 => by cases r <;> rfl
  | 5 => by cases r <;> rfl
  | 6 => by cases r <;> rfl
  | 7 => by cases r <;> rfl

theorem exec_rowResHl (b : Fin 8) (s : State) : exec (rowResHl b) s = clearBitMem b s :=
  match b with
  | 0 => rfl
  | 1 => rfl
  | 2 => rfl
  | 3 => rfl
  | 4 => rfl
  | 5 => rfl
  | 6 => rfl
  | 7 => rfl

theorem exec_rowSetR (b : Fin 8) (r : Reg8) (s : State) : exec (rowSetR b r) s = setBitReg b r s :=
  match b with
  | 0 => by cases r <;> rfl
  | 1 => by cases r <;> rfl
  | 2 => by cases r <;> rfl
  | 3 => by cases r <;> rfl
  | 4 => by cases r <;> rfl
  | 5 => by cases r <;> rfl
  | 6 => by cases r <;> rfl
  | 7 => by cases r <;> rfl

theorem exec_rowSetHl (b : Fin 8) (s : State) : exec (rowSetHl b) s = setBitMem b s :=
  match b with
  | 0 => rfl
  | 1 => rfl
  | 2 => rfl
  | 3 => rfl
  | 4 => rfl
  | 5 => rfl
  | 6 => rfl
  | 7 => rfl

theorem exec_rowRst (y : Fin 8) (s : State) : exec (rowRst y) s = done 16 (s.call (BitVec.ofNat 16 (8 * y.val))) :=
  match y with
  | 0 => rfl
  | 1 => rfl
  | 2 => rfl
  | 3 => rfl
  | 4 => rfl
  | 5 => rfl
  | 6 => rfl
  | 7 => rfl

end Sys2Proof.Machine
end

