-- ==== Sys2Proof/Laws/Step.lean ====
section
/-! SUPPORT. Everything a step can do, once: the proofs about `step` cite these and never unfold it. -/

namespace Sys2Proof.Machine

variable (s t : State)

theorem hasPending_iff : s.hasPending = true ↔ s.pending ≠ 0 := by simp [State.hasPending]

/-- What a step that answers a next state has done (30_encoding.md R109), with every guard. -/
theorem step_cases (h : step s = .next t) :
    s.ramBanks ≠ none ∧ s.fault = none ∧
      ((s.stopped = true ∧ t = s.charge 4) ∨
       (s.stopped = false ∧ s.halted = true ∧ t = s.haltedStep) ∨
       (s.stopped = false ∧ s.halted = false ∧ s.ime = true ∧ s.pending ≠ 0 ∧ t = s.dispatch.charge 20) ∨
       (s.Fetches ∧ ∃ u, exec s.fetched s.routineStart = .next u ∧ u.fault = none ∧ t = s.delayedEnable u)) := by
  rw [step, State.runStep] at h
  match hb : s.ramBanks, hf : s.fault with
  | none, _ => simp [hb] at h
  | some _, some _ => simp [hb, hf] at h
  | some n, none =>
    refine ⟨by simp, rfl, ?_⟩
    simp only [hb, hf] at h
    split at h
    · rename_i hs; injection h with h; exact .inl ⟨hs, h.symm⟩
    · rename_i hs
      split at h
      · rename_i hh; injection h with h; exact .inr (.inl ⟨by simpa using hs, hh, h.symm⟩)
      · rename_i hh
        split at h
        · rename_i hi
          rw [State.takesInterrupt, Bool.and_eq_true, hasPending_iff] at hi
          injection h with h
          exact .inr (.inr (.inl ⟨by simpa using hs, by simpa using hh, hi.1, hi.2, h.symm⟩))
        · rename_i hi
          rw [State.takesInterrupt, Bool.and_eq_true, hasPending_iff] at hi
          refine .inr (.inr (.inr ⟨⟨by simp [hb], hf, by simpa using hs, by simpa using hh, hi⟩, ?_⟩))
          rw [State.execute] at h
          split at h
          · rename_i u hu
            rw [State.finish] at h
            split at h
            · simp at h
            · rename_i hn
              injection h with h
              exact ⟨u, hu, hn, h.symm⟩
          · simp at h
          · simp at h

/-- A step that fetches is `execute` (30_encoding.md R109). -/
theorem step_of_fetches (h : s.Fetches) : step s = s.execute := by
  obtain ⟨hb, hf, hs, hh, hi⟩ := h
  rw [step, State.runStep]
  obtain ⟨n, hn⟩ := Option.ne_none_iff_exists'.1 hb
  have : ¬s.takesInterrupt = true := by
    rwa [State.takesInterrupt, Bool.and_eq_true, hasPending_iff]
  simp [hn, hf, hs, hh, this]

/-- A step that dispatches (60_exceptions.md R503). -/
theorem step_of_interrupt (hb : s.ramBanks ≠ none) (hf : s.fault = none) (hs : s.stopped = false)
    (hh : s.halted = false) (hi : s.ime = true) (hp : s.pending ≠ 0) : step s = .next (s.dispatch.charge 20) := by
  rw [step, State.runStep]
  obtain ⟨n, hn⟩ := Option.ne_none_iff_exists'.1 hb
  have : s.takesInterrupt = true := by rw [State.takesInterrupt, hi, (hasPending_iff s).2 hp]; rfl
  simp [hn, hf, hs, hh, this]

/-- `execute` where the opcode is assigned and its routine records no fault (30_encoding.md R110). -/
theorem execute_next (u : State) (hu : exec s.fetched s.routineStart = .next u) (hf : u.fault = none) :
    s.execute = .next (s.delayedEnable u) := by
  rw [State.execute, hu]
  show s.finish u = _
  rw [State.finish, hf]

/-- The delayed enable touches IME alone. -/
theorem delayedEnable_cases (u : State) :
    (s.eiPending = true ∧ s.opcode ≠ 0xF3 ∧ s.delayedEnable u = { u with ime := true }) ∨
      (¬(s.eiPending = true ∧ s.opcode ≠ 0xF3) ∧ s.delayedEnable u = u) := by
  unfold State.delayedEnable
  by_cases h : s.eiPending = true ∧ s.opcode ≠ 0xF3
  · exact .inl ⟨h.1, h.2, if_pos (by rw [h.1, Bool.true_and, bne_iff_ne]; exact h.2)⟩
  · refine .inr ⟨h, if_neg ?_⟩
    simpa using h

theorem keeps_delayedEnable (u : State) : Keeps u (s.delayedEnable u) := by
  rcases delayedEnable_cases s u with ⟨_, _, h⟩ | ⟨_, h⟩ <;> rw [h]
  · exact .of_eq rfl rfl rfl id
  · exact .refl u

end Sys2Proof.Machine
end

