-- ==== Sys2Proof/Tests/Slice0.lean ====
section
/-! SUPPORT. The model's own tests. Expected values come from spec/: the words from opcode_table.json and
30_encoding.md, the steps from the examples of the instruction rules and from 95_test_vectors.md. The witnesses at
the end show that the hypotheses of the statements can be met. -/

open Sys2Proof Sys2Proof.Machine Sys2Proof.Claims

namespace Sys2Proof.Tests

/-! ### Helpers -/

/-- A loaded core with no external RAM, about to run from WRAM. -/
def base : State := { State.reset with ramBanks := some 0, pc := 0xC000, sp := 0xFFFE }

/-- `s` with the bytes stored where it fetches next. -/
def run (bytes : List Byte) (s : State) : State := s.pokeBytes s.pc bytes

/-- A view of the state one step later, if there is one. -/
def after {α : Type} (s : State) (view : State → α) : Option α :=
  match step s with
  | .next t => some (view t)
  | .fault _ => none
  | .refused _ => none

/-- The fault a step answers, if it does. -/
def faultOf (s : State) : Option Fault :=
  match step s with
  | .fault f => some f
  | .next _ => none
  | .refused _ => none

/-- The refusal a step answers, if it does. -/
def refusalOf (s : State) : Option Refusal :=
  match step s with
  | .refused r => some r
  | .next _ => none
  | .fault _ => none

/-- What the decoder reads at the head of the bytes. -/
def head (bytes : List Byte) : Option Instr :=
  match decode bytes with
  | .ok (i, _) => some i
  | .error _ => none

/-- What the decoder reads at the head of each list. -/
def heads (rows : List (List Byte)) : List (Option Instr) := rows.map head

/-! ### Well-formed terms -/

theorem test_wf_refuses_the_prefix_row : (Instr.prefix_cb 0x37).wf = false := rfl

theorem test_wf_accepts_the_extended_row : Instr.swap_a.wf = true := rfl

theorem test_wf_accepts_an_unassigned_byte : Instr.unassigned_fd.wf = true := rfl

/-! ### Decoding: every row of spec/opcode_table.json, by the word the table gives it -/

/-- Row 0 of the base map (30_encoding.md R108). -/
theorem test_decode_base_0 :
    heads [
      [0x00], [0x01, 0x12, 0x34], [0x02], [0x03], [0x04], [0x05], [0x06, 0x12], [0x07], [0x08, 0x12, 0x34], [0x09],
      [0x0A], [0x0B], [0x0C], [0x0D], [0x0E, 0x12], [0x0F]] =
    [
      some .nop, some (.ld_bc_nn 0x3412), some .ld_mbc_a, some .inc_bc, some .inc_b, some .dec_b,
      some (.ld_b_n 0x12), some .rlca, some (.ld_mnn_sp 0x3412), some .add_hl_bc, some .ld_a_mbc, some .dec_bc,
      some .inc_c, some .dec_c, some (.ld_c_n 0x12), some .rrca] := rfl

/-- Row 1 of the base map (30_encoding.md R108). -/
theorem test_decode_base_1 :
    heads [
      [0x10, 0x12], [0x11, 0x12, 0x34], [0x12], [0x13], [0x14], [0x15], [0x16, 0x12], [0x17], [0x18, 0x12], [0x19],
      [0x1A], [0x1B], [0x1C], [0x1D], [0x1E, 0x12], [0x1F]] =
    [
      some (.stop 0x12), some (.ld_de_nn 0x3412), some .ld_mde_a, some .inc_de, some .inc_d, some .dec_d,
      some (.ld_d_n 0x12), some .rla, some (.jr_e8 0x12), some .add_hl_de, some .ld_a_mde, some .dec_de, some .inc_e,
      some .dec_e, some (.ld_e_n 0x12), some .rra] := rfl

/-- Row 2 of the base map (30_encoding.md R108). -/
theorem test_decode_base_2 :
    heads [
      [0x20, 0x12], [0x21, 0x12, 0x34], [0x22], [0x23], [0x24], [0x25], [0x26, 0x12], [0x27], [0x28, 0x12], [0x29],
      [0x2A], [0x2B], [0x2C], [0x2D], [0x2E, 0x12], [0x2F]] =
    [
      some (.jr_nz_e8 0x12), some (.ld_hl_nn 0x3412), some .ld_mhli_a, some .inc_hl, some .inc_h, some .dec_h,
      some (.ld_h_n 0x12), some .daa, some (.jr_z_e8 0x12), some .add_hl_hl, some .ld_a_mhli, some .dec_hl,
      some .inc_l, some .dec_l, some (.ld_l_n 0x12), some .cpl] := rfl

/-- Row 3 of the base map (30_encoding.md R108). -/
theorem test_decode_base_3 :
    heads [
      [0x30, 0x12], [0x31, 0x12, 0x34], [0x32], [0x33], [0x34], [0x35], [0x36, 0x12], [0x37], [0x38, 0x12], [0x39],
      [0x3A], [0x3B], [0x3C], [0x3D], [0x3E, 0x12], [0x3F]] =
    [
      some (.jr_nc_e8 0x12), some (.ld_sp_nn 0x3412), some .ld_mhld_a, some .inc_sp, some .inc_mhl, some .dec_mhl,
      some (.ld_mhl_n 0x12), some .scf, some (.jr_c_e8 0x12), some .add_hl_sp, some .ld_a_mhld, some .dec_sp,
      some .inc_a, some .dec_a, some (.ld_a_n 0x12), some .ccf] := rfl

/-- Row 4 of the base map (30_encoding.md R108). -/
theorem test_decode_base_4 :
    heads [
      [0x40], [0x41], [0x42], [0x43], [0x44], [0x45], [0x46], [0x47], [0x48], [0x49], [0x4A], [0x4B], [0x4C], [0x4D],
      [0x4E], [0x4F]] =
    [
      some .ld_b_b, some .ld_b_c, some .ld_b_d, some .ld_b_e, some .ld_b_h, some .ld_b_l, some .ld_b_mhl,
      some .ld_b_a, some .ld_c_b, some .ld_c_c, some .ld_c_d, some .ld_c_e, some .ld_c_h, some .ld_c_l,
      some .ld_c_mhl, some .ld_c_a] := rfl

/-- Row 5 of the base map (30_encoding.md R108). -/
theorem test_decode_base_5 :
    heads [
      [0x50], [0x51], [0x52], [0x53], [0x54], [0x55], [0x56], [0x57], [0x58], [0x59], [0x5A], [0x5B], [0x5C], [0x5D],
      [0x5E], [0x5F]] =
    [
      some .ld_d_b, some .ld_d_c, some .ld_d_d, some .ld_d_e, some .ld_d_h, some .ld_d_l, some .ld_d_mhl,
      some .ld_d_a, some .ld_e_b, some .ld_e_c, some .ld_e_d, some .ld_e_e, some .ld_e_h, some .ld_e_l,
      some .ld_e_mhl, some .ld_e_a] := rfl

/-- Row 6 of the base map (30_encoding.md R108). -/
theorem test_decode_base_6 :
    heads [
      [0x60], [0x61], [0x62], [0x63], [0x64], [0x65], [0x66], [0x67], [0x68], [0x69], [0x6A], [0x6B], [0x6C], [0x6D],
      [0x6E], [0x6F]] =
    [
      some .ld_h_b, some .ld_h_c, some .ld_h_d, some .ld_h_e, some .ld_h_h, some .ld_h_l, some .ld_h_mhl,
      some .ld_h_a, some .ld_l_b, some .ld_l_c, some .ld_l_d, some .ld_l_e, some .ld_l_h, some .ld_l_l,
      some .ld_l_mhl, some .ld_l_a] := rfl

/-- Row 7 of the base map (30_encoding.md R108). -/
theorem test_decode_base_7 :
    heads [
      [0x70], [0x71], [0x72], [0x73], [0x74], [0x75], [0x76], [0x77], [0x78], [0x79], [0x7A], [0x7B], [0x7C], [0x7D],
      [0x7E], [0x7F]] =
    [
      some .ld_mhl_b, some .ld_mhl_c, some .ld_mhl_d, some .ld_mhl_e, some .ld_mhl_h, some .ld_mhl_l, some .halt,
      some .ld_mhl_a, some .ld_a_b, some .ld_a_c, some .ld_a_d, some .ld_a_e, some .ld_a_h, some .ld_a_l,
      some .ld_a_mhl, some .ld_a_a] := rfl

/-- Row 8 of the base map (30_encoding.md R108). -/
theorem test_decode_base_8 :
    heads [
      [0x80], [0x81], [0x82], [0x83], [0x84], [0x85], [0x86], [0x87], [0x88], [0x89], [0x8A], [0x8B], [0x8C], [0x8D],
      [0x8E], [0x8F]] =
    [
      some .add_a_b, some .add_a_c, some .add_a_d, some .add_a_e, some .add_a_h, some .add_a_l, some .add_a_mhl,
      some .add_a_a, some .adc_a_b, some .adc_a_c, some .adc_a_d, some .adc_a_e, some .adc_a_h, some .adc_a_l,
      some .adc_a_mhl, some .adc_a_a] := rfl

/-- Row 9 of the base map (30_encoding.md R108). -/
theorem test_decode_base_9 :
    heads [
      [0x90], [0x91], [0x92], [0x93], [0x94], [0x95], [0x96], [0x97], [0x98], [0x99], [0x9A], [0x9B], [0x9C], [0x9D],
      [0x9E], [0x9F]] =
    [
      some .sub_b, some .sub_c, some .sub_d, some .sub_e, some .sub_h, some .sub_l, some .sub_mhl, some .sub_a,
      some .sbc_a_b, some .sbc_a_c, some .sbc_a_d, some .sbc_a_e, some .sbc_a_h, some .sbc_a_l, some .sbc_a_mhl,
      some .sbc_a_a] := rfl

/-- Row A of the base map (30_encoding.md R108). -/
theorem test_decode_base_A :
    heads [
      [0xA0], [0xA1], [0xA2], [0xA3], [0xA4], [0xA5], [0xA6], [0xA7], [0xA8], [0xA9], [0xAA], [0xAB], [0xAC], [0xAD],
      [0xAE], [0xAF]] =
    [
      some .and_b, some .and_c, some .and_d, some .and_e, some .and_h, some .and_l, some .and_mhl, some .and_a,
      some .xor_b, some .xor_c, some .xor_d, some .xor_e, some .xor_h, some .xor_l, some .xor_mhl, some .xor_a] := rfl

/-- Row B of the base map (30_encoding.md R108). -/
theorem test_decode_base_B :
    heads [
      [0xB0], [0xB1], [0xB2], [0xB3], [0xB4], [0xB5], [0xB6], [0xB7], [0xB8], [0xB9], [0xBA], [0xBB], [0xBC], [0xBD],
      [0xBE], [0xBF]] =
    [
      some .or_b, some .or_c, some .or_d, some .or_e, some .or_h, some .or_l, some .or_mhl, some .or_a, some .cp_b,
      some .cp_c, some .cp_d, some .cp_e, some .cp_h, some .cp_l, some .cp_mhl, some .cp_a] := rfl

/-- Row C of the base map (30_encoding.md R108); 0xCB is in the extended map. -/
theorem test_decode_base_C :
    heads [
      [0xC0], [0xC1], [0xC2, 0x12, 0x34], [0xC3, 0x12, 0x34], [0xC4, 0x12, 0x34], [0xC5], [0xC6, 0x12], [0xC7],
      [0xC8], [0xC9], [0xCA, 0x12, 0x34], [0xCC, 0x12, 0x34], [0xCD, 0x12, 0x34], [0xCE, 0x12], [0xCF]] =
    [
      some .ret_nz, some .pop_bc, some (.jp_nz_nn 0x3412), some (.jp_nn 0x3412), some (.call_nz_nn 0x3412),
      some .push_bc, some (.add_a_n 0x12), some .rst_0x00, some .ret_z, some .ret, some (.jp_z_nn 0x3412),
      some (.call_z_nn 0x3412), some (.call_nn 0x3412), some (.adc_a_n 0x12), some .rst_0x08] := rfl

/-- Row D of the base map (30_encoding.md R108). -/
theorem test_decode_base_D :
    heads [
      [0xD0], [0xD1], [0xD2, 0x12, 0x34], [0xD3], [0xD4, 0x12, 0x34], [0xD5], [0xD6, 0x12], [0xD7], [0xD8], [0xD9],
      [0xDA, 0x12, 0x34], [0xDB], [0xDC, 0x12, 0x34], [0xDD], [0xDE, 0x12], [0xDF]] =
    [
      some .ret_nc, some .pop_de, some (.jp_nc_nn 0x3412), some .unassigned_d3, some (.call_nc_nn 0x3412),
      some .push_de, some (.sub_n 0x12), some .rst_0x10, some .ret_c, some .reti, some (.jp_c_nn 0x3412),
      some .unassigned_db, some (.call_c_nn 0x3412), some .unassigned_dd, some (.sbc_a_n 0x12), some .rst_0x18] := rfl

/-- Row E of the base map (30_encoding.md R108). -/
theorem test_decode_base_E :
    heads [
      [0xE0, 0x12], [0xE1], [0xE2], [0xE3], [0xE4], [0xE5], [0xE6, 0x12], [0xE7], [0xE8, 0x12], [0xE9],
      [0xEA, 0x12, 0x34], [0xEB], [0xEC], [0xED], [0xEE, 0x12], [0xEF]] =
    [
      some (.ldh_mn_a 0x12), some .pop_hl, some .ldh_mc_a, some .unassigned_e3, some .unassigned_e4, some .push_hl,
      some (.and_n 0x12), some .rst_0x20, some (.add_sp_e8 0x12), some .jp_hl, some (.ld_mnn_a 0x3412),
      some .unassigned_eb, some .unassigned_ec, some .unassigned_ed, some (.xor_n 0x12), some .rst_0x28] := rfl

/-- Row F of the base map (30_encoding.md R108). -/
theorem test_decode_base_F :
    heads [
      [0xF0, 0x12], [0xF1], [0xF2], [0xF3], [0xF4], [0xF5], [0xF6, 0x12], [0xF7], [0xF8, 0x12], [0xF9],
      [0xFA, 0x12, 0x34], [0xFB], [0xFC], [0xFD], [0xFE, 0x12], [0xFF]] =
    [
      some (.ldh_a_mn 0x12), some .pop_af, some .ldh_a_mc, some .di, some .unassigned_f4, some .push_af,
      some (.or_n 0x12), some .rst_0x30, some (.ld_hl_sp_e8 0x12), some .ld_sp_hl, some (.ld_a_mnn 0x3412), some .ei,
      some .unassigned_fc, some .unassigned_fd, some (.cp_n 0x12), some .rst_0x38] := rfl

/-- Row 0 of the extended map (30_encoding.md R114). -/
theorem test_decode_extended_0 :
    heads [
      [0xCB, 0x00], [0xCB, 0x01], [0xCB, 0x02], [0xCB, 0x03], [0xCB, 0x04], [0xCB, 0x05], [0xCB, 0x06], [0xCB, 0x07],
      [0xCB, 0x08], [0xCB, 0x09], [0xCB, 0x0A], [0xCB, 0x0B], [0xCB, 0x0C], [0xCB, 0x0D], [0xCB, 0x0E], [0xCB, 0x0F]] =
    [
      some .rlc_b, some .rlc_c, some .rlc_d, some .rlc_e, some .rlc_h, some .rlc_l, some .rlc_mhl, some .rlc_a,
      some .rrc_b, some .rrc_c, some .rrc_d, some .rrc_e, some .rrc_h, some .rrc_l, some .rrc_mhl, some .rrc_a] := rfl

/-- Row 1 of the extended map (30_encoding.md R114). -/
theorem test_decode_extended_1 :
    heads [
      [0xCB, 0x10], [0xCB, 0x11], [0xCB, 0x12], [0xCB, 0x13], [0xCB, 0x14], [0xCB, 0x15], [0xCB, 0x16], [0xCB, 0x17],
      [0xCB, 0x18], [0xCB, 0x19], [0xCB, 0x1A], [0xCB, 0x1B], [0xCB, 0x1C], [0xCB, 0x1D], [0xCB, 0x1E], [0xCB, 0x1F]] =
    [
      some .rl_b, some .rl_c, some .rl_d, some .rl_e, some .rl_h, some .rl_l, some .rl_mhl, some .rl_a, some .rr_b,
      some .rr_c, some .rr_d, some .rr_e, some .rr_h, some .rr_l, some .rr_mhl, some .rr_a] := rfl

/-- Row 2 of the extended map (30_encoding.md R114). -/
theorem test_decode_extended_2 :
    heads [
      [0xCB, 0x20], [0xCB, 0x21], [0xCB, 0x22], [0xCB, 0x23], [0xCB, 0x24], [0xCB, 0x25], [0xCB, 0x26], [0xCB, 0x27],
      [0xCB, 0x28], [0xCB, 0x29], [0xCB, 0x2A], [0xCB, 0x2B], [0xCB, 0x2C], [0xCB, 0x2D], [0xCB, 0x2E], [0xCB, 0x2F]] =
    [
      some .sla_b, some .sla_c, some .sla_d, some .sla_e, some .sla_h, some .sla_l, some .sla_mhl, some .sla_a,
      some .sra_b, some .sra_c, some .sra_d, some .sra_e, some .sra_h, some .sra_l, some .sra_mhl, some .sra_a] := rfl

/-- Row 3 of the extended map (30_encoding.md R114). -/
theorem test_decode_extended_3 :
    heads [
      [0xCB, 0x30], [0xCB, 0x31], [0xCB, 0x32], [0xCB, 0x33], [0xCB, 0x34], [0xCB, 0x35], [0xCB, 0x36], [0xCB, 0x37],
      [0xCB, 0x38], [0xCB, 0x39], [0xCB, 0x3A], [0xCB, 0x3B], [0xCB, 0x3C], [0xCB, 0x3D], [0xCB, 0x3E], [0xCB, 0x3F]] =
    [
      some .swap_b, some .swap_c, some .swap_d, some .swap_e, some .swap_h, some .swap_l, some .swap_mhl,
      some .swap_a, some .srl_b, some .srl_c, some .srl_d, some .srl_e, some .srl_h, some .srl_l, some .srl_mhl,
      some .srl_a] := rfl

/-- Row 4 of the extended map (30_encoding.md R114). -/
theorem test_decode_extended_4 :
    heads [
      [0xCB, 0x40], [0xCB, 0x41], [0xCB, 0x42], [0xCB, 0x43], [0xCB, 0x44], [0xCB, 0x45], [0xCB, 0x46], [0xCB, 0x47],
      [0xCB, 0x48], [0xCB, 0x49], [0xCB, 0x4A], [0xCB, 0x4B], [0xCB, 0x4C], [0xCB, 0x4D], [0xCB, 0x4E], [0xCB, 0x4F]] =
    [
      some .bit_0_b, some .bit_0_c, some .bit_0_d, some .bit_0_e, some .bit_0_h, some .bit_0_l, some .bit_0_mhl,
      some .bit_0_a, some .bit_1_b, some .bit_1_c, some .bit_1_d, some .bit_1_e, some .bit_1_h, some .bit_1_l,
      some .bit_1_mhl, some .bit_1_a] := rfl

/-- Row 5 of the extended map (30_encoding.md R114). -/
theorem test_decode_extended_5 :
    heads [
      [0xCB, 0x50], [0xCB, 0x51], [0xCB, 0x52], [0xCB, 0x53], [0xCB, 0x54], [0xCB, 0x55], [0xCB, 0x56], [0xCB, 0x57],
      [0xCB, 0x58], [0xCB, 0x59], [0xCB, 0x5A], [0xCB, 0x5B], [0xCB, 0x5C], [0xCB, 0x5D], [0xCB, 0x5E], [0xCB, 0x5F]] =
    [
      some .bit_2_b, some .bit_2_c, some .bit_2_d, some .bit_2_e, some .bit_2_h, some .bit_2_l, some .bit_2_mhl,
      some .bit_2_a, some .bit_3_b, some .bit_3_c, some .bit_3_d, some .bit_3_e, some .bit_3_h, some .bit_3_l,
      some .bit_3_mhl, some .bit_3_a] := rfl

/-- Row 6 of the extended map (30_encoding.md R114). -/
theorem test_decode_extended_6 :
    heads [
      [0xCB, 0x60], [0xCB, 0x61], [0xCB, 0x62], [0xCB, 0x63], [0xCB, 0x64], [0xCB, 0x65], [0xCB, 0x66], [0xCB, 0x67],
      [0xCB, 0x68], [0xCB, 0x69], [0xCB, 0x6A], [0xCB, 0x6B], [0xCB, 0x6C], [0xCB, 0x6D], [0xCB, 0x6E], [0xCB, 0x6F]] =
    [
      some .bit_4_b, some .bit_4_c, some .bit_4_d, some .bit_4_e, some .bit_4_h, some .bit_4_l, some .bit_4_mhl,
      some .bit_4_a, some .bit_5_b, some .bit_5_c, some .bit_5_d, some .bit_5_e, some .bit_5_h, some .bit_5_l,
      some .bit_5_mhl, some .bit_5_a] := rfl

/-- Row 7 of the extended map (30_encoding.md R114). -/
theorem test_decode_extended_7 :
    heads [
      [0xCB, 0x70], [0xCB, 0x71], [0xCB, 0x72], [0xCB, 0x73], [0xCB, 0x74], [0xCB, 0x75], [0xCB, 0x76], [0xCB, 0x77],
      [0xCB, 0x78], [0xCB, 0x79], [0xCB, 0x7A], [0xCB, 0x7B], [0xCB, 0x7C], [0xCB, 0x7D], [0xCB, 0x7E], [0xCB, 0x7F]] =
    [
      some .bit_6_b, some .bit_6_c, some .bit_6_d, some .bit_6_e, some .bit_6_h, some .bit_6_l, some .bit_6_mhl,
      some .bit_6_a, some .bit_7_b, some .bit_7_c, some .bit_7_d, some .bit_7_e, some .bit_7_h, some .bit_7_l,
      some .bit_7_mhl, some .bit_7_a] := rfl

/-- Row 8 of the extended map (30_encoding.md R114). -/
theorem test_decode_extended_8 :
    heads [
      [0xCB, 0x80], [0xCB, 0x81], [0xCB, 0x82], [0xCB, 0x83], [0xCB, 0x84], [0xCB, 0x85], [0xCB, 0x86], [0xCB, 0x87],
      [0xCB, 0x88], [0xCB, 0x89], [0xCB, 0x8A], [0xCB, 0x8B], [0xCB, 0x8C], [0xCB, 0x8D], [0xCB, 0x8E], [0xCB, 0x8F]] =
    [
      some .res_0_b, some .res_0_c, some .res_0_d, some .res_0_e, some .res_0_h, some .res_0_l, some .res_0_mhl,
      some .res_0_a, some .res_1_b, some .res_1_c, some .res_1_d, some .res_1_e, some .res_1_h, some .res_1_l,
      some .res_1_mhl, some .res_1_a] := rfl

/-- Row 9 of the extended map (30_encoding.md R114). -/
theorem test_decode_extended_9 :
    heads [
      [0xCB, 0x90], [0xCB, 0x91], [0xCB, 0x92], [0xCB, 0x93], [0xCB, 0x94], [0xCB, 0x95], [0xCB, 0x96], [0xCB, 0x97],
      [0xCB, 0x98], [0xCB, 0x99], [0xCB, 0x9A], [0xCB, 0x9B], [0xCB, 0x9C], [0xCB, 0x9D], [0xCB, 0x9E], [0xCB, 0x9F]] =
    [
      some .res_2_b, some .res_2_c, some .res_2_d, some .res_2_e, some .res_2_h, some .res_2_l, some .res_2_mhl,
      some .res_2_a, some .res_3_b, some .res_3_c, some .res_3_d, some .res_3_e, some .res_3_h, some .res_3_l,
      some .res_3_mhl, some .res_3_a] := rfl

/-- Row A of the extended map (30_encoding.md R114). -/
theorem test_decode_extended_A :
    heads [
      [0xCB, 0xA0], [0xCB, 0xA1], [0xCB, 0xA2], [0xCB, 0xA3], [0xCB, 0xA4], [0xCB, 0xA5], [0xCB, 0xA6], [0xCB, 0xA7],
      [0xCB, 0xA8], [0xCB, 0xA9], [0xCB, 0xAA], [0xCB, 0xAB], [0xCB, 0xAC], [0xCB, 0xAD], [0xCB, 0xAE], [0xCB, 0xAF]] =
    [
      some .res_4_b, some .res_4_c, some .res_4_d, some .res_4_e, some .res_4_h, some .res_4_l, some .res_4_mhl,
      some .res_4_a, some .res_5_b, some .res_5_c, some .res_5_d, some .res_5_e, some .res_5_h, some .res_5_l,
      some .res_5_mhl, some .res_5_a] := rfl

/-- Row B of the extended map (30_encoding.md R114). -/
theorem test_decode_extended_B :
    heads [
      [0xCB, 0xB0], [0xCB, 0xB1], [0xCB, 0xB2], [0xCB, 0xB3], [0xCB, 0xB4], [0xCB, 0xB5], [0xCB, 0xB6], [0xCB, 0xB7],
      [0xCB, 0xB8], [0xCB, 0xB9], [0xCB, 0xBA], [0xCB, 0xBB], [0xCB, 0xBC], [0xCB, 0xBD], [0xCB, 0xBE], [0xCB, 0xBF]] =
    [
      some .res_6_b, some .res_6_c, some .res_6_d, some .res_6_e, some .res_6_h, some .res_6_l, some .res_6_mhl,
      some .res_6_a, some .res_7_b, some .res_7_c, some .res_7_d, some .res_7_e, some .res_7_h, some .res_7_l,
      some .res_7_mhl, some .res_7_a] := rfl

/-- Row C of the extended map (30_encoding.md R114). -/
theorem test_decode_extended_C :
    heads [
      [0xCB, 0xC0], [0xCB, 0xC1], [0xCB, 0xC2], [0xCB, 0xC3], [0xCB, 0xC4], [0xCB, 0xC5], [0xCB, 0xC6], [0xCB, 0xC7],
      [0xCB, 0xC8], [0xCB, 0xC9], [0xCB, 0xCA], [0xCB, 0xCB], [0xCB, 0xCC], [0xCB, 0xCD], [0xCB, 0xCE], [0xCB, 0xCF]] =
    [
      some .set_0_b, some .set_0_c, some .set_0_d, some .set_0_e, some .set_0_h, some .set_0_l, some .set_0_mhl,
      some .set_0_a, some .set_1_b, some .set_1_c, some .set_1_d, some .set_1_e, some .set_1_h, some .set_1_l,
      some .set_1_mhl, some .set_1_a] := rfl

/-- Row D of the extended map (30_encoding.md R114). -/
theorem test_decode_extended_D :
    heads [
      [0xCB, 0xD0], [0xCB, 0xD1], [0xCB, 0xD2], [0xCB, 0xD3], [0xCB, 0xD4], [0xCB, 0xD5], [0xCB, 0xD6], [0xCB, 0xD7],
      [0xCB, 0xD8], [0xCB, 0xD9], [0xCB, 0xDA], [0xCB, 0xDB], [0xCB, 0xDC], [0xCB, 0xDD], [0xCB, 0xDE], [0xCB, 0xDF]] =
    [
      some .set_2_b, some .set_2_c, some .set_2_d, some .set_2_e, some .set_2_h, some .set_2_l, some .set_2_mhl,
      some .set_2_a, some .set_3_b, some .set_3_c, some .set_3_d, some .set_3_e, some .set_3_h, some .set_3_l,
      some .set_3_mhl, some .set_3_a] := rfl

/-- Row E of the extended map (30_encoding.md R114). -/
theorem test_decode_extended_E :
    heads [
      [0xCB, 0xE0], [0xCB, 0xE1], [0xCB, 0xE2], [0xCB, 0xE3], [0xCB, 0xE4], [0xCB, 0xE5], [0xCB, 0xE6], [0xCB, 0xE7],
      [0xCB, 0xE8], [0xCB, 0xE9], [0xCB, 0xEA], [0xCB, 0xEB], [0xCB, 0xEC], [0xCB, 0xED], [0xCB, 0xEE], [0xCB, 0xEF]] =
    [
      some .set_4_b, some .set_4_c, some .set_4_d, some .set_4_e, some .set_4_h, some .set_4_l, some .set_4_mhl,
      some .set_4_a, some .set_5_b, some .set_5_c, some .set_5_d, some .set_5_e, some .set_5_h, some .set_5_l,
      some .set_5_mhl, some .set_5_a] := rfl

/-- Row F of the extended map (30_encoding.md R114). -/
theorem test_decode_extended_F :
    heads [
      [0xCB, 0xF0], [0xCB, 0xF1], [0xCB, 0xF2], [0xCB, 0xF3], [0xCB, 0xF4], [0xCB, 0xF5], [0xCB, 0xF6], [0xCB, 0xF7],
      [0xCB, 0xF8], [0xCB, 0xF9], [0xCB, 0xFA], [0xCB, 0xFB], [0xCB, 0xFC], [0xCB, 0xFD], [0xCB, 0xFE], [0xCB, 0xFF]] =
    [
      some .set_6_b, some .set_6_c, some .set_6_d, some .set_6_e, some .set_6_h, some .set_6_l, some .set_6_mhl,
      some .set_6_a, some .set_7_b, some .set_7_c, some .set_7_d, some .set_7_e, some .set_7_h, some .set_7_l,
      some .set_7_mhl, some .set_7_a] := rfl

/-! ### Decoding: what is not a whole instruction -/

theorem test_decode_refuses_nothing_at_all : decode [] = .error .noBytes := rfl

theorem test_decode_refuses_a_truncated_immediate : decode [0xC3, 0x50] = .error (.truncated 0xC3) := rfl

theorem test_decode_refuses_a_prefix_alone : decode [0xCB] = .error (.truncated 0xCB) := rfl

theorem test_decode_leaves_what_follows : decode [0x21, 0xCD, 0xAB, 0x76] = .ok (.ld_hl_nn 0xABCD, [0x76]) := rfl

/-! ### Words as spec/opcode_table.json numbers them -/

theorem test_tableWord_base : decodeTableWord 8 0x41 = some .ld_b_c := rfl

theorem test_tableWord_operand_bytes_above_nbits_are_zero : decodeTableWord 8 0xC3 = some (.jp_nn 0x0000) := rfl

theorem test_tableWord_immediate : decodeTableWord 24 0xABCD21 = some (.ld_hl_nn 0xABCD) := rfl

theorem test_tableWord_extended : decodeTableWord 16 0xCB2C = some .sra_h := rfl

theorem test_withFetchWord_runs_first :
    after (State.reset.withFetchWord 8 0x3C) (fun t => (t.a, t.pc, t.cycles)) = some (0x01, 0x0001, 4) := rfl

theorem test_withFetchWord_runs_extended :
    after ({ State.reset with b := 0x01 }.withFetchWord 16 0xCB00) (fun t => (t.b, t.pc)) = some (0x02, 0x0002) := rfl

theorem test_withFetchWord_unassigned :
    faultOf (State.reset.withFetchWord 8 0xD3) = some (.invalidOpcode 0x0000 0xD3) := rfl

/-! ### One step, from the examples of the instruction rules -/

/-- 40_loads_8bit.md R150. -/
theorem test_step_ld_b_c :
    after (run [0x41] { base with b := 0x12, c := 0x34 }) (fun t => (t.b, t.c, t.pc, t.cycles)) =
      some (0x34, 0x34, 0xC001, 4) := rfl

/-- R151. -/
theorem test_step_ld_a_n :
    after (run [0x3E, 0x7F] base) (fun t => (t.a, t.pc, t.cycles)) =
      some (0x7F, 0xC002, 8) := rfl

/-- R153. -/
theorem test_step_ld_mhl_a_is_seen_in_the_echo :
    after (run [0x77] { base with h := 0xC1, l := 0x23, a := 0x99 }) (fun t => (t.read 0xC123, t.read 0xE123)) =
      some (0x99, 0x99) := rfl

/-- R152. -/
theorem test_step_ld_h_mhl_reads_with_the_old_hl :
    after (run [0x66] { base with h := 0xC0, l := 0x00 }) (fun t => (t.h, t.l)) =
      some (0x66, 0x00) := rfl

/-- R160. -/
theorem test_step_ld_mnn_a_reaches_ie :
    after (run [0xEA, 0xFF, 0xFF] { base with a := 0x05 }) (fun t => (t.read 0xFFFF, t.pc, t.cycles)) =
      some (0x05, 0xC003, 16) := rfl

/-- R164. -/
theorem test_step_ldh_mc_a_reaches_if :
    after (run [0xE2] { base with a := 0x04, c := 0x0F }) (fun t => t.read 0xFF0F) =
      some 0x04 := rfl

/-- R167. -/
theorem test_step_ld_mhli_a_wraps_hl :
    after (run [0x22] { base with h := 0xFF, l := 0xFF, a := 0x1F }) (fun t => (t.hl, t.read 0xFFFF)) =
      some (0x0000, 0x1F) := rfl

/-- R168. -/
theorem test_step_ld_mhld_a_to_rom_is_ignored :
    after (run [0x32] { base with h := 0x00, l := 0x00, a := 0x01 }) (fun t => (t.hl, t.read 0x0000)) =
      some (0xFFFF, 0x00) := rfl

/-- 41_loads_16bit.md R200. -/
theorem test_step_ld_hl_nn :
    after (run [0x21, 0xCD, 0xAB] base) (fun t => (t.h, t.l)) =
      some (0xAB, 0xCD) := rfl

/-- R201. -/
theorem test_step_ld_mnn_sp_low_byte_first :
    after (run [0x08, 0x00, 0xC1] { base with sp := 0xFFF8 }) (fun t => (t.read 0xC100, t.read 0xC101, t.cycles)) =
      some (0xF8, 0xFF, 20) := rfl

/-- R203. -/
theorem test_step_push_bc :
    after (run [0xC5] { base with b := 0x12, c := 0x34 }) (fun t => (t.read 0xFFFD, t.read 0xFFFC, t.sp)) =
      some (0x12, 0x34, 0xFFFC) := rfl

/-- R204: at SP = 0xC000 the low byte is the opcode 0xF1 itself, the high byte 0x12. -/
theorem test_step_pop_af_masks_f :
    after (run [0xF1, 0x12] { base with sp := 0xC000 }) (fun t => (t.a, t.f, t.sp)) =
      some (0x12, 0xF0, 0xC002) := rfl

/-- R205. -/
theorem test_step_ld_hl_sp_e8_negative :
    after (run [0xF8, 0xFF] { base with sp := 0x0001 }) (fun t => (t.hl, t.f)) =
      some (0x0000, 0x30) := rfl

/-- 42_alu_8bit.md R260. -/
theorem test_step_add_a_b :
    after (run [0x80] { base with a := 0x3A, b := 0xC6 }) (fun t => (t.a, t.f)) =
      some (0x00, 0xB0) := rfl

/-- R263. -/
theorem test_step_adc_a_e :
    after (run [0x8B] { base with a := 0xE1, e := 0x0F, f := 0x10 }) (fun t => (t.a, t.f)) =
      some (0xF1, 0x20) := rfl

/-- R268. -/
theorem test_step_sub_n :
    after (run [0xD6, 0x0F] { base with a := 0x3E }) (fun t => (t.a, t.f)) =
      some (0x2F, 0x60) := rfl

/-- R269. -/
theorem test_step_sbc_a_a_with_borrow :
    after (run [0x9F] { base with a := 0x12, f := 0x10 }) (fun t => (t.a, t.f)) =
      some (0xFF, 0x70) := rfl

/-- R272. -/
theorem test_step_and_l :
    after (run [0xA5] { base with a := 0x5A, l := 0x3F }) (fun t => (t.a, t.f)) =
      some (0x1A, 0x20) := rfl

/-- R275. -/
theorem test_step_xor_a :
    after (run [0xAF] { base with a := 0xFF, f := 0x70 }) (fun t => (t.a, t.f)) =
      some (0x00, 0x80) := rfl

/-- R280. -/
theorem test_step_or_n_zero :
    after (run [0xF6, 0x00] base) (fun t => (t.a, t.f)) =
      some (0x00, 0x80) := rfl

/-- R281. -/
theorem test_step_cp_b_keeps_a :
    after (run [0xB8] { base with a := 0x3C, b := 0x2F }) (fun t => (t.a, t.f)) =
      some (0x3C, 0x60) := rfl

/-- R284. -/
theorem test_step_inc_b_wraps_and_keeps_c :
    after (run [0x04] { base with b := 0xFF, f := 0x10 }) (fun t => (t.b, t.f)) =
      some (0x00, 0xB0) := rfl

/-- R286, 90_conflicts.md C3. -/
theorem test_step_dec_b_to_zero :
    after (run [0x05] { base with b := 0x01 }) (fun t => (t.b, t.f)) =
      some (0x00, 0xC0) := rfl

/-- R285. -/
theorem test_step_inc_mhl_in_the_gap :
    after (run [0x34] { base with h := 0xFE, l := 0xA0 }) (fun t => (t.read 0xFEA0, t.f, t.cycles)) =
      some (0xFF, 0xA0, 12) := rfl

/-- R288. -/
theorem test_step_daa_after_addition :
    after (run [0x27] { base with a := 0x7D }) (fun t => (t.a, t.f)) =
      some (0x83, 0x00) := rfl

/-- R288. -/
theorem test_step_daa_carries :
    after (run [0x27] { base with a := 0x9A }) (fun t => (t.a, t.f)) =
      some (0x00, 0x90) := rfl

/-- R289. -/
theorem test_step_cpl :
    after (run [0x2F] { base with a := 0x35 }) (fun t => (t.a, t.f)) =
      some (0xCA, 0x60) := rfl

/-- R291. -/
theorem test_step_ccf :
    after (run [0x3F] { base with f := 0xF0 }) (fun t => t.f) =
      some 0x80 := rfl

/-- 43_alu_16bit.md R301. -/
theorem test_step_add_hl_bc :
    after (run [0x09] { base with h := 0x8A, l := 0x23, b := 0x06, c := 0x05 }) (fun t => (t.hl, t.f)) =
      some (0x9028, 0x20) := rfl

/-- R302. -/
theorem test_step_inc_bc_keeps_flags :
    after (run [0x03] { base with b := 0x00, c := 0xFF, f := 0xF0 }) (fun t => (t.bc, t.f)) =
      some (0x0100, 0xF0) := rfl

/-- 44_rotate_shift_bit.md R351. -/
theorem test_step_rlca :
    after (run [0x07] { base with a := 0xCC }) (fun t => (t.a, t.f)) =
      some (0x99, 0x10) := rfl

/-- R352, 90_conflicts.md C4. -/
theorem test_step_rrca :
    after (run [0x0F] { base with a := 0xCC }) (fun t => (t.a, t.f)) =
      some (0x66, 0x00) := rfl

/-- R361. -/
theorem test_step_rr_a_through_carry :
    after (run [0xCB, 0x1F] { base with a := 0x01 }) (fun t => (t.a, t.f)) =
      some (0x00, 0x90) := rfl

/-- R365. -/
theorem test_step_sra_a :
    after (run [0xCB, 0x2F] { base with a := 0x8A }) (fun t => (t.a, t.f)) =
      some (0xC5, 0x00) := rfl

/-- 46_system.md R455. -/
theorem test_step_swap_a :
    after (run [0xCB, 0x37] { base with a := 0xF1 }) (fun t => (t.a, t.f, t.pc, t.cycles)) =
      some (0x1F, 0x00, 0xC002, 8) := rfl

/-- 44_rotate_shift_bit.md R371. -/
theorem test_step_bit_7_h_keeps_c :
    after (run [0xCB, 0x7C] { base with h := 0x80, f := 0x10 }) (fun t => t.f) =
      some 0x30 := rfl

/-- R374. -/
theorem test_step_res_0_mhl :
    after (run [0xCB, 0x86, 0xFF] { base with h := 0xC0, l := 0x02 }) (fun t => (t.read 0xC002, t.cycles)) =
      some (0xFE, 16) := rfl

/-- R375. -/
theorem test_step_set_3_b :
    after (run [0xCB, 0xD8] base) (fun t => t.b) =
      some 0x08 := rfl

/-- 45_control.md R401. -/
theorem test_step_jp_z_taken :
    after (run [0xCA, 0x00, 0x30] { base with f := 0x80 }) (fun t => (t.pc, t.cycles)) =
      some (0x3000, 16) := rfl

/-- R401. -/
theorem test_step_jp_z_not_taken :
    after (run [0xCA, 0x00, 0x30] base) (fun t => (t.pc, t.cycles)) =
      some (0xC003, 12) := rfl

/-- R403. -/
theorem test_step_jr_backwards :
    after (run [0x18, 0xFB] base) (fun t => (t.pc, t.cycles)) =
      some (0xBFFD, 12) := rfl

/-- R405. -/
theorem test_step_call_nn :
    after (run [0xCD, 0x34, 0x12] base) (fun t => (t.read 0xFFFD, t.read 0xFFFC, t.sp, t.pc, t.cycles)) =
      some (0xC0, 0x03, 0xFFFC, 0x1234, 24) := rfl

/-- R408: at SP = 0xC001 stand 0x03 and 0x01. -/
theorem test_step_ret_nz_taken :
    after (run [0xC0, 0x03, 0x01] { base with sp := 0xC001 }) (fun t => (t.pc, t.sp, t.cycles)) =
      some (0x0103, 0xC003, 20) := rfl

/-- R409. -/
theorem test_step_reti_sets_ime_at_once :
    after (run [0xD9, 0x50, 0x02] { base with sp := 0xC001 }) (fun t => (t.pc, t.sp, t.ime)) =
      some (0x0250, 0xC003, true) := rfl

/-- R410. -/
theorem test_step_rst_28 :
    after (run [0xEF] base) (fun t => (t.read 0xFFFD, t.read 0xFFFC, t.pc, t.cycles)) =
      some (0xC0, 0x01, 0x0028, 16) := rfl

/-- 46_system.md R453. -/
theorem test_step_ei_waits :
    after (run [0xFB] base) (fun t => (t.ime, t.eiPending)) =
      some (false, true) := rfl

/-- R453. -/
theorem test_step_nop_after_ei_enables :
    after (run [0x00] { base with eiPending := true }) (fun t => (t.ime, t.eiPending)) =
      some (true, false) := rfl

/-- R454. -/
theorem test_step_di_after_ei_cancels :
    after (run [0xF3] { base with eiPending := true }) (fun t => (t.ime, t.eiPending)) =
      some (false, false) := rfl

/-- R451 case (2). -/
theorem test_step_halt_sleeps :
    after (run [0x76] base) (fun t => (t.halted, t.haltBug, t.pc)) =
      some (true, false, 0xC001) := rfl

/-- R455. -/
theorem test_step_halt_bug_runs_the_prefix_byte_as_set_1_e :
    after (run [0xCB, 0x37] { base with haltBug := true }) (fun t => (t.e, t.pc, t.haltBug)) =
      some (0x02, 0xC001, false) := rfl

/-- R452. -/
theorem test_step_stop_takes_two_bytes :
    after (run [0x10, 0x00] base) (fun t => (t.stopped, t.pc, t.cycles)) =
      some (true, 0xC002, 4) := rfl

/-- 46_system.md R451 case (3): IME = 0 with an interrupt pending. -/
theorem test_step_halt_bug :
    after (run [0x76] ((base.hostWrite 0xFFFF 0x01).hostWrite 0xFF0F 0x01)) (fun t => (t.halted, t.haltBug)) =
      some (false, true) := rfl

/-- 60_exceptions.md R503: the Timer interrupt, dispatched before the opcode at PC. -/
theorem test_step_dispatch :
    after (run [0xD3] (({ base with ime := true }.hostWrite 0xFFFF 0x04).hostWrite 0xFF0F 0xE4))
        (fun t => (t.pc, t.sp, t.read 0xFFFD, t.read 0xFFFC, t.read 0xFF0F, t.ime, t.cycles)) =
      some (0x0050, 0xFFFC, 0xC0, 0x00, 0xE0, false, 20) := rfl

/-- 60_exceptions.md R503: the push of the high byte clears IE, so the dispatch goes to 0x0000 and keeps IF. -/
theorem test_step_dispatch_cancelled :
    after ((({ base with ime := true, pc := 0x0200, sp := 0x0000 }.hostWrite 0xFFFF 0x01).hostWrite 0xFF0F 0x01))
        (fun t => (t.pc, t.read 0xFFFF, t.read 0xFF0F)) =
      some (0x0000, 0x02, 0x01) := rfl

/-- 60_exceptions.md R506: the wake step executes nothing. -/
theorem test_step_wake :
    after ({ base with halted := true }.hostWrite 0xFFFF 0x01 |>.hostWrite 0xFF0F 0x01)
        (fun t => (t.halted, t.pc, t.cycles)) =
      some (false, 0xC000, 4) := rfl

/-- 60_exceptions.md R507: nothing but `wake_stop` ends STOP. -/
theorem test_step_stopped :
    after ({ base with stopped := true, ime := true }.hostWrite 0xFFFF 0x1F |>.hostWrite 0xFF0F 0x1F)
        (fun t => (t.stopped, t.pc, t.cycles)) =
      some (true, 0xC000, 4) := rfl

/-- 46_system.md R456. -/
theorem test_step_unassigned : faultOf (run [0xD3] base) = some (.invalidOpcode 0xC000 0xD3) := rfl

/-- 30_encoding.md R113. -/
theorem test_step_fault_is_sticky :
    faultOf { base with fault := some (.invalidOpcode 0x0200 0xD3) } = some (.invalidOpcode 0x0200 0xD3) := rfl

/-- notes/assumptions/1.md. -/
theorem test_step_without_a_cartridge : refusalOf State.reset = some .noCartridge := rfl

/-! ### The loader (20_memory.md R75 to R79; the header checksums are those of 95_test_vectors.md L1 to L13) -/

/-- A header of zeros but for the bytes listed. -/
def header (cells : List (Nat × Byte)) (k : Nat) : Byte := Memory.get cells k

theorem test_load_short : checkHeader 0x7FFF (header [(0x14D, 0xE7)]) = .error .corruptCartridge := by decide

theorem test_load_unprintable_title :
    checkHeader 0x8000 (header [(0x134, 0x80), (0x14D, 0x67)]) = .error .corruptCartridge := by decide

theorem test_load_text_after_the_padding :
    checkHeader 0x8000 (header [(0x134, 0x41), (0x136, 0x42), (0x14D, 0x64)]) = .error .corruptCartridge := by decide

theorem test_load_bad_checksum : checkHeader 0x8000 (header []) = .error .corruptCartridge := by decide

theorem test_load_recognized_type :
    checkHeader 0x8000 (header [(0x147, 0x01), (0x14D, 0xE6)]) = .error .unsupportedMapper := by decide

theorem test_load_unrecognized_type :
    checkHeader 0x8000 (header [(0x147, 0x04), (0x14D, 0xE3)]) = .error .invalidCartridgeType := by decide

theorem test_load_ram_code_one :
    checkHeader 0x8000 (header [(0x149, 0x01), (0x14D, 0xE6)]) = .error .invalidCartridgeType := by decide

theorem test_load_rom_code_nine :
    checkHeader 0x8000 (header [(0x148, 0x09), (0x14D, 0xDE)]) = .error .invalidCartridgeType := by decide

theorem test_load_titled :
    checkHeader 0x8000 (header [(0x134, 0x54), (0x135, 0x45), (0x136, 0x53), (0x137, 0x54), (0x14D, 0xA7)]) =
      .ok (0, 2) := by decide

theorem test_load_ram_code_three : checkHeader 0x8000 (header [(0x149, 0x03), (0x14D, 0xE4)]) = .ok (4, 2) := by decide

theorem test_load_rom_code_eight : checkHeader 0x8000 (header [(0x148, 0x08), (0x14D, 0xDF)]) = .ok (0, 512) := by decide


/-! ### Witnesses: the hypotheses of the statements can be met, clause by clause -/

/-- An image the loader accepts: zeros but for the header checksum. -/
def image : List Byte := List.replicate 0x14D 0x00 ++ 0xE7 :: List.replicate 0x7EB2 0x00

theorem image_length : image.length = 0x8000 := by
  rw [image, List.length_append, List.length_cons, List.length_replicate, List.length_replicate]

theorem image_getD (k : Nat) : image.getD k 0 = header [(0x14D, 0xE7)] k := by
  show image.getD k 0 = if 0x14D = k then 0xE7 else 0x00
  rw [image, List.getD_eq_getElem?_getD, List.getElem?_append, List.length_replicate]
  split
  · rw [if_neg (by omega), List.getElem?_replicate, if_pos (by assumption)]; rfl
  · rw [List.getElem?_cons]
    split
    · rw [if_pos (by omega)]; rfl
    · rw [if_neg (by omega), List.getElem?_replicate]
      split <;> rfl

theorem image_header : checkHeader image.length (fun k => image.getD k 0) = .ok (0, 2) := by
  rw [image_length, show (fun k => image.getD k 0) = header [(0x14D, 0xE7)] from funext image_getD]
  decide

theorem image_launches (p : LaunchParams) : ∃ t, State.launch p image = .ok t := by
  rw [State.launch, State.load, loadCartridge, image_header]
  exact ⟨_, rfl⟩

theorem test_witness_DecodeOfEncode :
    (Instr.ld_hl_nn 0xFFFF).wf = true ∧ Instr.set_7_a.wf = true ∧ Instr.unassigned_fd.wf = true := by decide

theorem test_witness_EncodeOfDecode : decode [0xCB, 0xFF, 0x01] = .ok (.set_7_a, [0x01]) := rfl

/-- A first byte of each of the three lists, two bytes after it. -/
theorem test_witness_LengthFromFirstByte :
    2 ≤ ([0x00, 0x00] : List Byte).length ∧ (0xFA : Byte).toNat ∈ [0x01, 0xFA] ∧ (0xCB : Byte).toNat ∈ [0x06, 0xCB] ∧
      (0xFF : Byte).toNat ∉ [0x01, 0xFA, 0x06, 0xCB] := by decide

/-- Every region at both its ends, for a cartridge with RAM, one without, and none. -/
theorem test_witness_EveryAddressReadsItsRegion :
    (∀ a ∈ ([0x0000, 0x9FFF] : List Word), a.toNat < 0xA000) ∧
      (∀ a ∈ ([0xA000, 0xBFFF] : List Word), 0xA000 ≤ a.toNat ∧ a.toNat < 0xC000) ∧
      ({ base with ramBanks := some 1 }.ramBanks = some 1 ∧ base.ramBanks = some 0 ∧ State.reset.ramBanks = none) ∧
      (∀ a ∈ ([0xC000, 0xDFFF] : List Word), 0xC000 ≤ a.toNat ∧ a.toNat < 0xE000) ∧
      (∀ a ∈ ([0xE000, 0xFDFF] : List Word), 0xE000 ≤ a.toNat ∧ a.toNat < 0xFE00) ∧
      (∀ a ∈ ([0xFE00, 0xFE9F] : List Word), 0xFE00 ≤ a.toNat ∧ a.toNat < 0xFEA0) ∧
      (∀ a ∈ ([0xFEA0, 0xFEFF] : List Word), 0xFEA0 ≤ a.toNat ∧ a.toNat < 0xFF00) ∧
      ∀ a ∈ ([0xFF00, 0xFFFF] : List Word), 0xFF00 ≤ a.toNat := by
  simp [base, State.reset]

theorem writable_base : Writable base 0x8000 ∧ Writable base 0xFE9F ∧ Writable base 0xC000 ∧ Writable base 0xC001 ∧
    Writable { base with ramBanks := some 1 } 0xBFFF := by
  refine ⟨⟨by decide, by decide, fun h => ?_⟩, ⟨by decide, by decide, fun h => ?_⟩, ⟨by decide, by decide, fun h => ?_⟩,
    ⟨by decide, by decide, fun h => ?_⟩, ⟨by decide, by decide, fun _ => ⟨1, rfl, by decide⟩⟩⟩
  all_goals exact absurd h (by decide)

/-- The ends of the writable regions are writable in every state. -/
theorem writable_ends (t : State) : Writable t 0x8000 ∧ Writable t 0xFFFF :=
  ⟨⟨by decide, by decide, fun h => absurd h (by decide)⟩, ⟨by decide, by decide, fun h => absurd h (by decide)⟩⟩

theorem not_writable_base : ¬Writable base 0x7FFF ∧ ¬Writable base 0xFEA0 ∧ ¬Writable base 0xFEFF ∧ ¬Writable base 0xA000 := by
  refine ⟨fun h => absurd h.1 (by decide), fun h => absurd h.2.1 (by decide), fun h => absurd h.2.1 (by decide), fun h => ?_⟩
  obtain ⟨n, hn, h0⟩ := h.2.2 (by decide)
  exact h0 (Option.some.inj hn).symm

theorem test_witness_BusWriteReachesOneCell : Writable base 0x8000 ∧ ¬Writable base 0x7FFF :=
  ⟨writable_base.1, not_writable_base.1⟩

theorem test_witness_EchoAliasesWorkingRam :
    (∀ a ∈ ([0xC000, 0xDDFF] : List Word), 0xC000 ≤ a.toNat ∧ a.toNat ≤ 0xDDFF) ∧
      ∀ a ∈ ([0xDE00, 0xDFFF] : List Word), 0xDE00 ≤ a.toNat ∧ a.toNat ≤ 0xDFFF ∧ (0xFE00 : Word) ≠ a := by
  simp

theorem test_witness_WordAccessIsLittleEndian : Writable base 0xC000 ∧ Writable base (0xC000 + 1) :=
  ⟨writable_base.2.2.1, writable_base.2.2.2.1⟩

theorem test_witness_RegisterWriteChangesOnlyThatRegister : Reg8.a ≠ Reg8.l := by decide

/-- Both profiles, and an initial memory with a cell at each end of the writable regions. -/
theorem test_witness_LaunchLeavesTheResetState :
    Memory.wf [(0x8000, 0x01), (0xFFFF, 0x1F)] = true ∧
      (∀ cell ∈ ([(0x8000, 0x01), (0xFFFF, 0x1F)] : Memory), 0x8000 ≤ cell.1) ∧
      (∀ profile : ResetProfile, ∃ t, State.launch ⟨profile, true, [(0x8000, 0x01), (0xFFFF, 0x1F)]⟩ image = .ok t ∧
        Writable t 0x8000 ∧ Writable t 0xFFFF) ∧
      (0x7FFF : Word).toNat < 0x8000 ∧ cellAddress 0x8000 = 0x8000 ∧ cellAddress 0xFFFF = 0xFFFF := by
  exact ⟨by decide, by decide, fun profile => (image_launches _).imp fun t ht => ⟨ht, writable_ends t⟩, by decide,
    by decide, by decide⟩

/-- The title clause of the statement (20_memory.md R76). -/
abbrev titleOk (at_ : Nat → Byte) : Prop :=
  (∀ i < 15, at_ (0x134 + i) = 0 ∨ 0x20 ≤ (at_ (0x134 + i)).toNat ∧ (at_ (0x134 + i)).toNat ≤ 0x7E) ∧
    ∀ j < 15, ∀ i < j, at_ (0x134 + i) = 0 → ¬(0x20 ≤ (at_ (0x134 + j)).toNat ∧ (at_ (0x134 + j)).toNat ≤ 0x7E)

/-- A header whose title has no padding but perhaps its last byte. -/
def fullTitle (first last : Byte) : Nat → Byte :=
  header ((0x134, first) :: ((List.range 13).map fun i => (0x135 + i, 0x41)) ++ [(0x142, last), (0x143, 0xFF)])

/-- A header for each branch of the checks, at the ends of its lists; the errors are the `test_load` theorems above. -/
theorem test_witness_LoaderChecksInOrder :
    let sumOk (at_ : Nat → Byte) :=
      (((List.range 25).map fun i => (at_ (0x134 + i)).toNat + 1).sum + (at_ 0x14D).toNat) % 256 = 0
    (titleOk (header [(0x14D, 0xE7)]) ∧ sumOk (header [(0x14D, 0xE7)]) ∧ (header [(0x14D, 0xE7)] 0x147).toNat = 0 ∧
        ((header [(0x14D, 0xE7)] 0x149).toNat, 0) ∈ [(0, 0), (2, 1), (3, 4), (4, 16), (5, 8)] ∧
        (header [(0x14D, 0xE7)] 0x148).toNat ≤ 8) ∧
      ¬sumOk (header []) ∧
      (titleOk (header [(0x147, 0xFF), (0x14D, 0xE8)]) ∧ sumOk (header [(0x147, 0xFF), (0x14D, 0xE8)]) ∧
        (header [(0x147, 0xFF), (0x14D, 0xE8)] 0x147).toNat ∈ [0x01, 0xFF]) ∧
      (titleOk (header [(0x147, 0x04), (0x14D, 0xE3)]) ∧ sumOk (header [(0x147, 0x04), (0x14D, 0xE3)])) ∧
      (titleOk (header [(0x148, 0x09), (0x14D, 0xDE)]) ∧ sumOk (header [(0x148, 0x09), (0x14D, 0xDE)]) ∧
        8 < (header [(0x148, 0x09), (0x14D, 0xDE)] 0x148).toNat) ∧
      (titleOk (header [(0x149, 0x01), (0x14D, 0xE6)]) ∧ sumOk (header [(0x149, 0x01), (0x14D, 0xE6)]) ∧
        (header [(0x149, 0x01), (0x14D, 0xE6)] 0x149).toNat ∉ [0, 2, 3, 4, 5]) := by
  intro sumOk
  refine ⟨⟨?_, ?_, ?_, ?_, ?_⟩, ?_, ⟨?_, ?_, ?_⟩, ⟨?_, ?_⟩, ⟨?_, ?_, ?_⟩, ⟨?_, ?_, ?_⟩⟩ <;> decide

/-- R76 at the boundary bytes of its range, at both ends of 0x134..0x142, and at the padding. -/
theorem test_witness_LoaderChecksInOrder_title :
    ¬titleOk (fullTitle 0x1F 0x41) ∧ titleOk (fullTitle 0x20 0x41) ∧
      titleOk (fullTitle 0x7E 0x41) ∧ ¬titleOk (fullTitle 0x7F 0x41) ∧
      ¬titleOk (fullTitle 0x41 0x1F) ∧ titleOk (fullTitle 0x41 0x20) ∧
      titleOk (fullTitle 0x41 0x7E) ∧ ¬titleOk (fullTitle 0x41 0x7F) ∧
      titleOk (fullTitle 0x41 0x00) ∧ ¬titleOk (fullTitle 0x00 0x41) := by
  refine ⟨?_, ?_, ?_, ?_, ?_, ?_, ?_, ?_, ?_, ?_⟩ <;> decide

theorem test_witness_LoaderChecksInOrder_cartridge : ∃ cart, loadCartridge image = .ok cart := by
  rw [loadCartridge, image_header]
  exact ⟨_, rfl⟩

theorem test_witness_LoadMapsTheImage :
    checkHeader ([] : List Byte).length (fun i => ([] : List Byte).getD i 0) = .error .corruptCartridge ∧
      checkHeader image.length (fun k => image.getD k 0) = .ok (0, 2) := ⟨rfl, image_header⟩

theorem test_witness_InvariantAtReset : ∃ t, State.launch ⟨.zero, true, []⟩ image = .ok t := image_launches _

theorem base_inv : base.Inv :=
  ⟨by decide, by decide, fun _ => ⟨rfl, rfl⟩, by decide, by decide⟩

/-- A state with both latches set and a listed cell. -/
theorem latched_inv : (run [0x76] { base with f := 0xF0, haltBug := true, eiPending := true }).Inv :=
  ⟨by decide, by decide, fun _ => ⟨rfl, rfl⟩, by decide, fun _ => rfl⟩

theorem test_witness_EveryStepKeepsTheInvariant :
    base.Inv ∧ (∃ t, step base = .next t) ∧
      ∃ t, step (run [0x76] { base with f := 0xF0, haltBug := true, eiPending := true }) = .next t :=
  ⟨base_inv, ⟨_, rfl⟩, ⟨_, rfl⟩⟩

theorem test_witness_NoStepChangesTheCartridge :
    (∃ t, step (run [0x77] { base with h := 0x01 }) = .next t) ∧ (0x7FFF : Word).toNat < 0x8000 := ⟨⟨_, rfl⟩, by decide⟩

theorem test_witness_HostActionsFollowTheBusRules : (0x7FFF : Word).toNat < 0x8000 := by decide


/-- A fetching state, with and without the halt-bug latch. -/
theorem test_witness_StepRunsTheFetchedInstruction :
    (run [0x21, 0xCD, 0xAB] base).Fetches ∧ (run [0x21, 0xCD, 0xAB] base).read 0xC000 ∉ unassignedBytes ∧
      decode [(run [0x21, 0xCD, 0xAB] base).read 0xC000, (run [0x21, 0xCD, 0xAB] base).read (0xC000 + 1),
        (run [0x21, 0xCD, 0xAB] base).read (0xC000 + 1 + 1)] = .ok (.ld_hl_nn 0xABCD, []) ∧
      (run [0xCB, 0x37] { base with haltBug := true, eiPending := true }).Fetches ∧
      decode [0xCB, 0xCB, 0x37] = .ok (.set_1_e, [0x37]) :=
  ⟨⟨by decide, rfl, rfl, rfl, by decide⟩, by decide, rfl, ⟨by decide, rfl, rfl, rfl, by decide⟩, rfl⟩

theorem test_witness_UnassignedBytesRaiseInvalidOpcode :
    (run [0xFD] base).Fetches ∧ (run [0xFD] base).read (run [0xFD] base).pc ∈ unassignedBytes ∧
      (Instr.unassigned_d3, (0xD3 : Byte)) ∈ unassignedRows :=
  ⟨⟨by decide, rfl, rfl, rfl, by decide⟩, by decide, by decide⟩

theorem test_witness_StepsStopOnlyOnInvalidOpcode :
    step (run [0xD3] base) = .fault (.invalidOpcode 0xC000 0xD3) ∧
      (let s := { base with fault := some (.invalidOpcode 0x0000 0xFD) };
        s.ramBanks ≠ none ∧ s.fault = some (.invalidOpcode 0x0000 0xFD)) ∧
      step State.reset = .refused .noCartridge ∧ State.reset.ramBanks = none :=
  ⟨rfl, ⟨by decide, rfl⟩, rfl, rfl⟩

/-- A stopped state; a halted state with nothing pending; and one with an interrupt pending. -/
theorem test_witness_SuspendedSteps :
    (let s := { base with stopped := true };
      s.ramBanks ≠ none ∧ s.fault = none ∧ s.stopped = true) ∧
      (let s := { base with halted := true };
        s.ramBanks ≠ none ∧ s.fault = none ∧ s.stopped = false ∧ s.halted = true ∧ pendingSet s = 0) ∧
      (let s := ({ base with halted := true }.hostWrite 0xFFFF 0x10).hostWrite 0xFF0F 0x10;
        s.ramBanks ≠ none ∧ s.fault = none ∧ s.stopped = false ∧ s.halted = true ∧ pendingSet s ≠ 0) := by decide

/-- The lowest source, the highest source (with the halt-bug latch set), and the dispatch whose push leaves nothing
pending. -/
theorem test_witness_InterruptDispatch :
    (let s := ({ base with ime := true }.hostWrite 0xFFFF 0x1F).hostWrite 0xFF0F 0x1F;
      s.ramBanks ≠ none ∧ s.fault = none ∧ s.stopped = false ∧ s.halted = false ∧ s.ime = true ∧ pendingSet s ≠ 0 ∧
        (pendingSet (s.write (s.sp - 1) (hiByte s.pc))).getLsbD 0 = true) ∧
      (let s := ({ base with ime := true, haltBug := true }.hostWrite 0xFFFF 0x10).hostWrite 0xFF0F 0x1F;
        s.ramBanks ≠ none ∧ s.fault = none ∧ s.stopped = false ∧ s.halted = false ∧ s.ime = true ∧ pendingSet s ≠ 0 ∧
          (pendingSet (s.write (s.sp - 1) (hiByte (s.pc - 1)))).getLsbD 4 = true ∧
          ∀ m : Fin 5, m < 4 → (pendingSet (s.write (s.sp - 1) (hiByte (s.pc - 1)))).getLsbD m = false) ∧
      (let s := ({ base with ime := true, sp := 0x0000, pc := 0x0200 }.hostWrite 0xFFFF 0x01).hostWrite 0xFF0F 0x01;
        s.ramBanks ≠ none ∧ s.fault = none ∧ s.stopped = false ∧ s.halted = false ∧ s.ime = true ∧ pendingSet s ≠ 0 ∧
          pendingSet (s.write (s.sp - 1) (hiByte s.pc)) = 0) := by decide

theorem test_witness_EiTakesEffectAfterTheNextInstruction :
    (run [0xFB] base).Fetches ∧ (∃ t, step (run [0xFB] base) = .next t) ∧
      (run [0x00] { base with eiPending := true }).Fetches ∧
      (∃ t, step (run [0x00] { base with eiPending := true }) = .next t) ∧
      (run [0xF3] { base with eiPending := true }).Fetches ∧
      ∃ t, step (run [0xF3] { base with eiPending := true }) = .next t :=
  ⟨⟨by decide, rfl, rfl, rfl, by decide⟩, ⟨_, rfl⟩, ⟨by decide, rfl, rfl, rfl, by decide⟩, ⟨_, rfl⟩,
    ⟨by decide, rfl, rfl, rfl, by decide⟩, ⟨_, rfl⟩⟩

/-- A step that sets IME and one that clears it. -/
theorem test_witness_ImeIsWrittenOnlyAsTheRuleSays :
    after (run [0xD9] base) (fun t => t.ime != base.ime) = some true ∧
      after (run [0xF3] { base with ime := true }) (fun t => t.ime != true) = some true := ⟨rfl, rfl⟩

theorem test_witness_HaltBugFetchesTheByteTwice :
    (run [0xCB] { base with haltBug := true }).haltBug = true ∧
      (run [0xCB] { base with haltBug := true }).read 0xC000 = 0xCB := ⟨rfl, rfl⟩

theorem test_witness_EveryStepCostsWholeMachineCycles :
    after base (·.cycles) = some 4 ∧ after (run [0xCD] base) (·.cycles) = some 24 := ⟨rfl, rfl⟩

theorem test_witness_EveryInstructionCompletes :
    Instr.nop ∉ unassignedRows.map Prod.fst ∧ Instr.prefix_cb 0xFF ∉ unassignedRows.map Prod.fst := by decide

/-- The form lists of the loads, the stores and the ALU statements have members. -/
theorem test_witness_forms :
    (loadForms base .h 0xFF 0xFFFF).length = 6 ∧ (storeForms base .l 0xFF 0x0000).length = 7 ∧
      (∀ op : AluOp, op ∈ [.add, .adc, .sub, .sbc, .and, .xor, .or, .cp] → (aluForms op base .a 0xFF).length = 3) := by
  decide

/-- A and the flags for each branch of DAA, at the boundaries 0x99 and 9. -/
theorem test_witness_DecimalAdjust :
    ({ base with a := 0x9A }.flagN = false ∧ (0x9A : Byte).toNat > 0x99 ∧ (0x9A : Byte).toNat % 16 > 9) ∧
      ((0xA0 : Byte).toNat > 0x99 ∧ ¬(0xA0 : Byte).toNat % 16 > 9 ∧ { base with a := 0xA0 }.flagH = false) ∧
      (¬(0x0A : Byte).toNat > 0x99 ∧ (0x0A : Byte).toNat % 16 > 9 ∧ { base with a := 0x0A }.flagC = false) ∧
      (¬(0x99 : Byte).toNat > 0x99 ∧ ¬(0x99 : Byte).toNat % 16 > 9) ∧
      ({ base with f := 0x70 }.flagN = true ∧ { base with f := 0x70 }.flagC = true ∧
        { base with f := 0x70 }.flagH = true) := by decide

theorem test_witness_IncAndDecPair : Pair.bc ≠ Pair.sp := by decide

/-- The byte of HL with bit 7 cleared, and with bit 0 set. -/
theorem test_witness_BitWritesOfMemory :
    (∀ k : Fin 8, (0x7F : Byte).getLsbD k = if k = 7 then false else (0xFF : Byte).getLsbD k) ∧
      ∀ k : Fin 8, (0x01 : Byte).getLsbD k = if k = 0 then true else (0x00 : Byte).getLsbD k := by decide

/-- Every condition, holding and failing. -/
theorem test_witness_Holds :
    (Holds .nz base ∧ ¬Holds .z base ∧ Holds .nc base ∧ ¬Holds .c base) ∧
      (¬Holds .nz { base with f := 0x90 } ∧ Holds .z { base with f := 0x90 } ∧ ¬Holds .nc { base with f := 0x90 } ∧
        Holds .c { base with f := 0x90 }) := by
  simp only [Holds]; decide

/-- The rows the load, stack, rotate and call statements range over have members at their ends. -/
theorem test_witness_rows :
    (Instr.push_af, StkPair.af, (0x00 : Byte), (0x00 : Byte)) ∈
        [(Instr.push_bc, StkPair.bc, base.b, base.c), (.push_af, .af, base.a, base.f)] ∧
      (Instr.rra, (0x1F : Byte), ShiftOp.rr) ∈ [(Instr.rlca, (0x07 : Byte), ShiftOp.rlc), (.rra, 0x1F, .rr)] ∧
      (rowRst 7, ([0xFF] : List Byte), (0x0038 : Word)) ∈ [(rowRst 7, [byte 0xFF], BitVec.ofNat 16 56)] := by decide

theorem test_witness_ReturnsPopThePc :
    (0x0103 : Word).toNat =
      ((run [0xC9, 0x03, 0x01] { base with sp := 0xC001 }).read (0xC001 + 1)).toNat * 256 +
        ((run [0xC9, 0x03, 0x01] { base with sp := 0xC001 }).read 0xC001).toNat := by decide

/-- The cases of HALT, IME = 1, nothing pending, and an interrupt pending in both modes of `HALT_BUG`. -/
theorem test_witness_HaltCases :
    { base with ime := true }.ime = true ∧ pendingSet base = 0 ∧
      (let s := (base.hostWrite 0xFFFF 0x01).hostWrite 0xFF0F 0x01;
        s.ime = false ∧ pendingSet s ≠ 0 ∧ s.haltBugMode = true) ∧
      (let s := ({ base with haltBugMode := false }.hostWrite 0xFFFF 0x01).hostWrite 0xFF0F 0x01;
        s.ime = false ∧ pendingSet s ≠ 0 ∧ s.haltBugMode = false) := by decide
end Sys2Proof.Tests
end

section
/-! PROOFS of the scope family (00_scope.md). What a routine of the table can do is said once, by following the
decoder's branches (`execCase`); word accesses go through the laws of the bus. -/

namespace Sys2Proof.Machine

open Sys2Proof.Claims

/-! ### Word accesses -/

/-- The next address as the spec counts it, modulo 65536 (00_scope.md R9). -/
theorem ofNat_toNat_succ (addr : Word) : BitVec.ofNat 16 ((addr.toNat + 1) % 65536) = addr + 1 :=
  BitVec.eq_of_toNat_eq (by simp)

/-- A word both of whose bytes are stored is read back (20_memory.md R55, R56). -/
theorem read16_of_storedWord {addr v : Word} {s t : State} (h : StoredWord addr v s t)
    (hlo : Writable s addr) (hhi : Writable s (addr + 1)) : t.read16 addr = v := by
  obtain ⟨low, high, -⟩ := h
  apply BitVec.eq_of_toNat_eq
  rw [State.read16, pack_toNat, low hlo, high hhi]
  omega

/-- Settles O9, by the value of a packed word and the law of the two byte stores. -/
theorem wordAccessIsLittleEndian : Obligations.WordAccessIsLittleEndian := by
  intro s addr v
  have stored := storedWord_write16 s addr v
  refine ⟨?_, stored, read16_of_storedWord stored⟩
  rw [ofNat_toNat_succ, State.read16, pack_toNat]

/-! ### Every well-formed instruction is the reading of its own bytes -/

/-- The decoder reads back what `encode` writes; a 16-bit immediate comes back by packing its two bytes. -/
theorem decodeFetched_encode (i : Instr) (h : i.wf = true) :
    ∃ op tail, encode i = op :: tail ∧ decodeFetched op (tail.getD 0 0) (tail.getD 1 0) = i := by
  cases i with
  | prefix_cb => cases h
  | ld_bc_nn nn | ld_de_nn nn | ld_hl_nn nn | ld_sp_nn nn | ld_mnn_sp nn | ld_mnn_a nn | ld_a_mnn nn
  | jp_nn nn | jp_nz_nn nn | jp_z_nn nn | jp_nc_nn nn | jp_c_nn nn
  | call_nn nn | call_nz_nn nn | call_z_nn nn | call_nc_nn nn | call_c_nn nn =>
    refine ⟨_, _, rfl, ?_⟩
    conv_rhs => rw [← pack_hiByte_loByte nn]
    rfl
  | _ => exact ⟨_, _, rfl, rfl⟩

/-! ### What a routine can do -/

/-- The routine of an unassigned row raises InvalidOpcode with its own byte (46_system.md R456). -/
theorem exec_unassigned {i : Instr} {op : Byte} (h : (i, op) ∈ unassignedRows) (s : State) :
    exec i s = .next (s.raiseInvalidOpcode op) := by
  simp only [unassignedRows, List.mem_cons, List.not_mem_nil, Prod.mk.injEq, or_false] at h
  rcases h with ⟨rfl, rfl⟩ | ⟨rfl, rfl⟩ | ⟨rfl, rfl⟩ | ⟨rfl, rfl⟩ | ⟨rfl, rfl⟩ | ⟨rfl, rfl⟩ | ⟨rfl, rfl⟩ |
    ⟨rfl, rfl⟩ | ⟨rfl, rfl⟩ | ⟨rfl, rfl⟩ | ⟨rfl, rfl⟩ <;> rfl

/-- The kinds of routine: an ordinary one, the fault of an unassigned row, or one of the five that write the control
state, each given by name because its whole effect is known (`haltCore_cases`, `stopCore_next`,
`enableInterrupts_next`, `disableInterrupts_next`, `returnFromInterrupt_next`). -/
inductive ExecCase (s : State) : Instr → Prop where
  | ordinary {i : Instr} {r : Result} (he : exec i s = r) (h : Ordinary s r) : ExecCase s i
  | unassigned {i : Instr} {op : Byte} (h : (i, op) ∈ unassignedRows) : ExecCase s i
  | halt : ExecCase s .halt
  | stop (n : Byte) : ExecCase s (.stop n)
  | ei : ExecCase s .ei
  | di : ExecCase s .di
  | reti : ExecCase s .reti

section

variable (s : State)

theorem execCase_decodeExtended (sub : Byte) : ExecCase s (decodeExtended sub) := by
  unfold decodeExtended
  split
  · exact .ordinary (exec_rowShiftR _ _ s) (ordinary_shiftReg s _ _)
  · exact .ordinary (exec_rowShiftHl _ s) (ordinary_shiftMem s _)
  · exact .ordinary (exec_rowBitR _ _ s) (ordinary_testBitReg s _ _)
  · exact .ordinary (exec_rowBitHl _ s) (ordinary_testBitMem s _)
  · exact .ordinary (exec_rowResR _ _ s) (ordinary_clearBitReg s _ _)
  · exact .ordinary (exec_rowResHl _ s) (ordinary_clearBitMem s _)
  · exact .ordinary (exec_rowSetR _ _ s) (ordinary_setBitReg s _ _)
  · exact .ordinary (exec_rowSetHl _ s) (ordinary_setBitMem s _)

theorem execCase_decodeX0 (y z : Nat) (b1 b2 : Byte) : ExecCase s (decodeX0 y z b1 b2) := by
  unfold decodeX0
  split
  · split
    · exact .ordinary rfl (ordinary_same s 4 (by decide))
    · exact .ordinary rfl (ordinary_write16 s 20 (by decide) _ _)
    · exact .stop _
    · exact .ordinary rfl (ordinary_setPc s 12 (by decide) _)
    · exact .ordinary (exec_rowJrCc _ _ s) (ordinary_jumpRelativeIf s _ _)
  · split
    · exact .ordinary (exec_rowLdPairNn _ _ s) (ordinary_loadPair s _ _)
    · exact .ordinary (exec_rowAddHl _ s) (ordinary_addHlPair s _)
  · split
    · exact .ordinary rfl (ordinary_storeMem s 8 (by decide) s.bc s.a)
    · exact .ordinary rfl (ordinary_loadMem s 8 (by decide) .a s.bc)
    · exact .ordinary rfl (ordinary_storeMem s 8 (by decide) s.de s.a)
    · exact .ordinary rfl (ordinary_loadMem s 8 (by decide) .a s.de)
    · exact .ordinary rfl (ordinary_storeHlThen s (s.hl + 1))
    · exact .ordinary rfl (ordinary_loadHlThen s (s.hl + 1))
    · exact .ordinary rfl (ordinary_storeHlThen s (s.hl - 1))
    · exact .ordinary rfl (ordinary_loadHlThen s (s.hl - 1))
  · split
    · exact .ordinary (exec_rowIncPair _ s) (ordinary_incPair s _)
    · exact .ordinary (exec_rowDecPair _ s) (ordinary_decPair s _)
  · split
    · exact .ordinary (exec_rowIncR _ s) (ordinary_incReg s _)
    · exact .ordinary rfl (ordinary_incMem s)
  · split
    · exact .ordinary (exec_rowDecR _ s) (ordinary_decReg s _)
    · exact .ordinary rfl (ordinary_decMem s)
  · split
    · exact .ordinary (exec_rowLdRN _ _ s) (ordinary_loadImm s _ _)
    · exact .ordinary rfl (ordinary_storeMem s 12 (by decide) s.hl b1)
  · split
    · exact .ordinary rfl (ordinary_rotateA s .rlc)
    · exact .ordinary rfl (ordinary_rotateA s .rrc)
    · exact .ordinary rfl (ordinary_rotateA s .rl)
    · exact .ordinary rfl (ordinary_rotateA s .rr)
    · exact .ordinary rfl (ordinary_decimalAdjust s)
    · exact .ordinary rfl (ordinary_complementA s)
    · exact .ordinary rfl (ordinary_setCarry s)
    · exact .ordinary rfl (ordinary_complementCarry s)

theorem execCase_decodeX1 (y z : Nat) : ExecCase s (decodeX1 y z) := by
  unfold decodeX1
  split
  · exact .ordinary (exec_rowLdRR _ _ s) (ordinary_loadReg s _ _)
  · exact .ordinary (exec_rowLdRHl _ s) (ordinary_loadMem s 8 (by decide) _ _)
  · exact .ordinary (exec_rowLdHlR _ s) (ordinary_storeMem s 8 (by decide) _ _)
  · exact .halt

theorem execCase_decodeX2 (y z : Nat) : ExecCase s (decodeX2 y z) := by
  unfold decodeX2
  split
  · exact .ordinary (exec_rowAluR _ _ s) (ordinary_aluReg s _ _)
  · exact .ordinary (exec_rowAluHl _ s) (ordinary_aluMem s _)

theorem execCase_decodeX3 (y z : Nat) (b1 b2 : Byte) : ExecCase s (decodeX3 y z b1 b2) := by
  unfold decodeX3
  split
  · split
    · exact .ordinary rfl (ordinary_storeMem s 12 (by decide) (highPage b1) s.a)
    · exact .ordinary rfl (ordinary_addSpOffset s b1)
    · exact .ordinary rfl (ordinary_loadMem s 12 (by decide) .a (highPage b1))
    · exact .ordinary rfl (ordinary_loadHlSp s b1)
    · exact .ordinary (exec_rowRetCc _ s) (ordinary_retIf s _)
  · split
    · exact .ordinary rfl (ordinary_ret s 16 (by decide))
    · exact .reti
    · exact .ordinary rfl (ordinary_setPc s 4 (by decide) s.hl)
    · exact .ordinary rfl (ordinary_setSp s 8 (by decide) s.hl)
    · exact .ordinary (exec_rowPop _ s) (ordinary_popPair s _)
  · split
    · exact .ordinary rfl (ordinary_storeMem s 8 (by decide) (highPage s.c) s.a)
    · exact .ordinary rfl (ordinary_storeMem s 16 (by decide) (pack b2 b1) s.a)
    · exact .ordinary rfl (ordinary_loadMem s 8 (by decide) .a (highPage s.c))
    · exact .ordinary rfl (ordinary_loadMem s 16 (by decide) .a (pack b2 b1))
    · exact .ordinary (exec_rowJpCc _ _ s) (ordinary_jumpIf s _ _)
  · split
    · exact .ordinary rfl (ordinary_setPc s 16 (by decide) (pack b2 b1))
    · exact execCase_decodeExtended s b1
    · exact .unassigned (op := 0xD3) (by decide)
    · exact .unassigned (op := 0xDB) (by decide)
    · exact .unassigned (op := 0xE3) (by decide)
    · exact .unassigned (op := 0xEB) (by decide)
    · exact .di
    · exact .ei
  · split
    · exact .unassigned (op := 0xE4) (by decide)
    · exact .unassigned (op := 0xEC) (by decide)
    · exact .unassigned (op := 0xF4) (by decide)
    · exact .unassigned (op := 0xFC) (by decide)
    · exact .ordinary (exec_rowCallCc _ _ s) (ordinary_callIf s _ _)
  · split
    · exact .ordinary rfl (ordinary_call s 24 (by decide) (pack b2 b1))
    · exact .unassigned (op := 0xDD) (by decide)
    · exact .unassigned (op := 0xED) (by decide)
    · exact .unassigned (op := 0xFD) (by decide)
    · exact .ordinary (exec_rowPush _ s) (ordinary_pushPair s _)
  · exact .ordinary (exec_rowAluN _ _ s) (ordinary_aluImm s _ _)
  · exact .ordinary (exec_rowRst _ s) (ordinary_call s 16 (by decide) _)

/-- Whatever three bytes a step fetches, their routine is of one of the kinds (30_encoding.md R114, R116). -/
theorem execCase_decodeFetched (op b1 b2 : Byte) : ExecCase s (decodeFetched op b1 b2) := by
  unfold decodeFetched
  split
  · exact execCase_decodeX0 s _ _ b1 b2
  · exact execCase_decodeX1 s _ _
  · exact execCase_decodeX2 s _ _
  · exact execCase_decodeX3 s _ _ b1 b2

/-- Every instruction's routine is of one of the kinds: PREFIX CB runs an extended routine (46_system.md R455), and
every other instruction is the reading of its own bytes. -/
theorem execCase (i : Instr) : ExecCase s i := by
  by_cases h : i.wf = true
  · obtain ⟨op, tail, -, hi⟩ := decodeFetched_encode i h
    exact hi ▸ execCase_decodeFetched s op _ _
  · cases i with
    | prefix_cb sub => exact .ordinary rfl (ordinary_runExtended s sub)
    | _ => exact absurd rfl h

/-- HALT completes in each of its cases and leaves the fault record alone (46_system.md R451). -/
theorem haltCore_keeps_fault : ∃ t, haltCore s = .next t ∧ t.fault = s.fault := by
  rcases haltCore_cases s with ⟨-, he⟩ | ⟨-, -, -, he⟩ | ⟨-, -, -, he⟩ <;> exact ⟨_, he, rfl⟩

end

/-- Settles O29, by the kinds of routine. -/
theorem everyInstructionCompletes : Obligations.EveryInstructionCompletes := by
  intro i s
  cases execCase s i with
  | ordinary he h =>
    obtain ⟨t, ht, -, ⟨-, -, -, -, -, hfault, -⟩, -⟩ := h
    exact ⟨t, he.trans ht, fun _ => hfault⟩
  | unassigned h => exact ⟨_, exec_unassigned h s, fun hi => absurd (List.mem_map_of_mem h) hi⟩
  | halt => exact (haltCore_keeps_fault s).imp fun _ h => h.imp_right fun hf _ => hf
  | stop n => exact ⟨_, stopCore_next s, fun _ => rfl⟩
  | ei => exact ⟨_, enableInterrupts_next s, fun _ => rfl⟩
  | di => exact ⟨_, disableInterrupts_next s, fun _ => rfl⟩
  | reti => exact ⟨_, returnFromInterrupt_next s, fun _ => rfl⟩

end Sys2Proof.Machine
end

section
/-! PROOFS of the state family (10_state.md). What a completed routine answers is said once (`exec_answer`), and what
a completed step keeps once (`step_keeps`); the invariants of the step are read off these and `step_cases`. -/

namespace Sys2Proof.Machine

open Sys2Proof.Claims

/-! ### Registers, flags and pairs -/

/-- Settles O10, by the laws of `setReg`. -/
theorem registerWriteChangesOnlyThatRegister : Obligations.RegisterWriteChangesOnlyThatRegister := by
  intro s r q v
  exact ⟨setReg_reg s r v, setReg_reg_ne s r q v, setReg_f s r v, setReg_sp s r v, setReg_pc s r v,
    controlKept_setReg s r v, setReg_mem s r v, setReg_cycles s r v⟩

/-- A write of the four flags makes F exactly `flags(z, n, h, c)` (00_scope.md R8). -/
theorem flagsAre_setFlags (s : State) (z n h c : Bool) : FlagsAre (s.setFlags z n h c) z n h c := by
  rw [FlagsAre, setFlags_f, packFlags_mask, packFlags_toNat]

/-- Settles O11, by the mask of `setF`, which every write of F goes through. -/
theorem everyWriteOfFMasksTheLowNibble : Obligations.EveryWriteOfFMasksTheLowNibble := by
  intro s v w z n h c
  exact ⟨rfl, mask_lowNibble (loByte w), mask_lowNibble (loByte w), flagsAre_setFlags s z n h c,
    setFlags_flagZ s z n h c, setFlags_flagN s z n h c, setFlags_flagH s z n h c, setFlags_flagC s z n h c⟩

/-- A mask of a packed word masks each byte. -/
theorem pack_and (high low high' low' : Byte) :
    pack high low &&& pack high' low' = pack (high &&& high') (low &&& low') := BitVec.and_append

/-- AF reads back as written but for the low nibble of F (10_state.md R22, R24). -/
theorem setAf_af (s : State) (v : Word) : (s.setAf v).af = v &&& 0xFFF0 := by
  have high : hiByte v &&& 0xFF = hiByte v := BitVec.and_allOnes
  calc (s.setAf v).af
    _ = pack (hiByte v &&& 0xFF) (loByte v &&& 0xF0) := by rw [high]; rfl
    _ = pack (hiByte v) (loByte v) &&& pack 0xFF 0xF0 := (pack_and _ _ _ _).symm
    _ = v &&& 0xFFF0 := by rw [pack_hiByte_loByte]; rfl

/-- Settles O12, by the value of a packed word and the laws of the pair writes. -/
theorem pairsPackHighRegisterFirst : Obligations.PairsPackHighRegisterFirst := by
  intro s v
  exact ⟨pack_toNat s.b s.c, pack_toNat s.d s.e, pack_toNat s.h s.l, pack_toNat s.a s.f,
    setBc_bc s v, rfl, setDe_de s v, rfl, setHl_hl s v, rfl, setAf_af s v, rfl⟩

/-! ### The launch -/

/-- One cell of `INIT_MEM` stored, where the region map lets it (20_memory.md R64). -/
def storeInitial (m : Memory) (cell : Host.Cell) : Memory :=
  if 0x8000 ≤ cell.1 && ownsStorage cell.1 then Memory.set m cell.1 cell.2 else m

theorem initialStorage_eq_foldl (initMem : List Host.Cell) :
    initialStorage initMem = initMem.foldl storeInitial [] := rfl

theorem storeInitial_of_owns (m : Memory) {k : Nat} (v : Byte) (hk : 0x8000 ≤ k) (ho : ownsStorage k = true) :
    storeInitial m (k, v) = Memory.set m k v := by
  simp [storeInitial, hk, ho]

/-- Storing a canonical list cell by cell gives its cells, and keeps the others: no address is listed twice. -/
theorem get_foldl_storeInitial (cells acc : Memory) (k : Nat) (hwf : Memory.wf cells = true)
    (hram : ∀ cell ∈ cells, 0x8000 ≤ cell.1) :
    Memory.get (cells.foldl storeInitial acc) k =
      if Memory.get cells k = Config.unlistedByte then Memory.get acc k else Memory.get cells k := by
  induction cells generalizing acc with
  | nil => simp [Memory.get]
  | cons cell rest ih =>
    obtain ⟨j, v⟩ := cell
    obtain ⟨howns, hv, hlt, hrest⟩ := (wf_cons j v rest).1 hwf
    rw [List.foldl_cons, storeInitial_of_owns acc v (hram _ List.mem_cons_self) howns,
      ih _ hrest fun c hc => hram c (List.mem_cons_of_mem _ hc), get_set, Memory.get]
    by_cases hj : j = k
    · subst hj
      simp [get_eq_unlisted rest j hlt, hv]
    · simp [hj]

/-- A canonical initial memory is what the machine is constructed with. -/
theorem get_initialStorage (initMem : Memory) (k : Nat) (hwf : Memory.wf initMem = true)
    (hram : ∀ cell ∈ initMem, 0x8000 ≤ cell.1) :
    Memory.get (initialStorage initMem) k = Memory.get initMem k := by
  rw [initialStorage_eq_foldl, get_foldl_storeInitial initMem [] k hwf hram]
  split
  · rename_i h; exact h.symm
  · rfl

theorem construct_mem (p : LaunchParams) : (State.construct p).mem = initialStorage p.initMem := by
  unfold State.construct
  cases p.profile <;> rfl

theorem construct_inv (p : LaunchParams) : (State.construct p).Inv := by
  have hwf : Memory.wf (State.construct p).mem = true := construct_mem p ▸ wf_initialStorage p.initMem
  obtain ⟨profile, bug, initMem⟩ := p
  cases profile with
  | zero => exact ⟨(by decide : (0x00 : Byte) &&& 0x0F = 0), hwf, fun _ => ⟨rfl, rfl⟩, nofun, nofun⟩
  | postBoot => exact ⟨(by decide : (0xB0 : Byte) &&& 0x0F = 0), hwf, fun _ => ⟨rfl, rfl⟩, nofun, nofun⟩

/-- Mapping a cartridge keeps the invariant: registers and control state are as before. -/
theorem mapCartridge_inv {s : State} (cart : Cartridge) (hs : s.Inv) : (s.mapCartridge cart).Inv :=
  ⟨hs.lowNibble, wf_mapCartridge s cart hs.storage, hs.latches, hs.oneSuspension, hs.bugMode⟩

/-- The first 0x8000 bytes of an accepted image are the ROM (20_memory.md R80). -/
theorem loadCartridge_rom {bytes : List Byte} {cart : Cartridge} (h : loadCartridge bytes = .ok cart) :
    cart.rom = bytes.take 0x8000 := by
  unfold loadCartridge at h
  split at h
  · cases h
  · cases h; rfl

/-- A launch that succeeds is the construction with the accepted image mapped (70_reset_and_hazards.md R550). -/
theorem launch_ok {p : LaunchParams} {bytes : List Byte} {t : State} (h : State.launch p bytes = .ok t) :
    ∃ cart, loadCartridge bytes = .ok cart ∧ t = (State.construct p).mapCartridge cart := by
  unfold State.launch State.load at h
  split at h
  · cases h
  · rename_i cart hcart
    cases h
    exact ⟨cart, hcart, rfl⟩

/-- Settles O16: the construction meets the invariant and the mapping of the image keeps it. -/
theorem invariantAtReset : Obligations.InvariantAtReset := by
  refine ⟨construct_inv ⟨.zero, Config.defaultHaltBugMode, []⟩, fun p bytes t h => ?_⟩
  obtain ⟨cart, -, rfl⟩ := launch_ok h
  exact mapCartridge_inv cart (construct_inv p)

/-- A read of the ROM region answers its cell (20_memory.md R58). -/
theorem read_of_rom (s : State) {addr : Word} (h : addr.toNat < 0x8000) :
    s.read addr = Memory.get s.mem addr.toNat := by
  rcases slot_cases s.ramBanks addr with ⟨-, hslot⟩ | ⟨hle, -⟩ | ⟨hle, -⟩ | ⟨hle, -⟩ | ⟨hle, -⟩ | ⟨hle, -⟩ |
    ⟨hle, -⟩ | ⟨hle, -⟩ | ⟨hle, -⟩
  · rw [State.read, hslot]
  all_goals omega

/-- A read of a writable address answers its cell (20_memory.md R52). -/
theorem read_of_writable (s : State) {addr : Word} (h : Writable s addr) :
    s.read addr = Memory.get s.mem (cellAddress addr).toNat := by
  rw [State.read, slot_of_writable s addr h]

/-- ROM reads as the mapped bytes (20_memory.md R80). -/
theorem mapCartridge_read_of_rom (s : State) {cart : Cartridge} {bytes : List Byte}
    (hrom : cart.rom = bytes.take 0x8000) {addr : Word} (h : addr.toNat < 0x8000) :
    (s.mapCartridge cart).read addr = bytes.getD addr.toNat 0 := by
  rw [read_of_rom _ h, get_mapCartridge s cart (by rw [hrom]; simp), if_pos h, hrom, List.getD_eq_getElem?_getD,
    List.getElem?_take_of_lt h, List.getD_eq_getElem?_getD]

/-- A writable cell reads as before the cartridge was mapped (20_memory.md R80). -/
theorem mapCartridge_read_of_writable (s : State) {cart : Cartridge} (hlength : cart.rom.length ≤ 0x8000) {addr : Word}
    (hw : Writable (s.mapCartridge cart) addr) (hcell : cellAddress addr = addr) :
    (s.mapCartridge cart).read addr = Memory.get s.mem addr.toNat := by
  rw [read_of_writable _ hw, hcell, get_mapCartridge s cart hlength, if_neg (Nat.not_lt.2 hw.1)]

/-- Settles O13: registers and control state are the construction's, ROM is the image's, and every other cell the
initial memory's. -/
theorem launchLeavesTheResetState : Obligations.LaunchLeavesTheResetState := by
  intro profile bug initMem bytes t hwf hram h
  obtain ⟨cart, hcart, rfl⟩ := launch_ok h
  have hrom := loadCartridge_rom hcart
  have readRam : ∀ addr : Word, 0x8000 ≤ addr.toNat →
      Writable ((State.construct ⟨profile, bug, initMem⟩).mapCartridge cart) addr → cellAddress addr = addr →
      ((State.construct ⟨profile, bug, initMem⟩).mapCartridge cart).read addr = Memory.get initMem addr.toNat := by
    intro addr _ hw hcell
    rw [mapCartridge_read_of_writable _ (by rw [hrom]; simp) hw hcell, construct_mem,
      get_initialStorage initMem _ hwf hram]
  cases profile with
  | zero =>
    exact ⟨fun _ => ⟨rfl, rfl, rfl, rfl, rfl, rfl, rfl, rfl, rfl, rfl⟩, nofun, rfl, rfl, rfl, rfl, rfl, rfl, rfl, rfl,
      fun _ => mapCartridge_read_of_rom _ hrom, readRam⟩
  | postBoot =>
    exact ⟨nofun, fun _ => ⟨rfl, rfl, rfl, rfl, rfl, rfl, rfl, rfl, rfl, rfl⟩, rfl, rfl, rfl, rfl, rfl, rfl, rfl, rfl,
      fun _ => mapCartridge_read_of_rom _ hrom, readRam⟩

/-! ### The fetched instruction and its first byte -/

/-- Case analysis over the 256 bytes by the fields x, y and z of an opcode (30_encoding.md R116). -/
theorem forall_byte_fields (P : Byte → Prop)
    (h : ∀ (x : Fin 4) (y z : Fin 8), P (BitVec.ofNat 8 (64 * x.val + 8 * y.val + z.val))) (v : Byte) : P v := by
  have hv := v.isLt
  have hP := h ⟨v.toNat / 64, by omega⟩ ⟨v.toNat / 8 % 8, by omega⟩ ⟨v.toNat % 8, by omega⟩
  rwa [show 64 * (v.toNat / 64) + 8 * (v.toNat / 8 % 8) + v.toNat % 8 = v.toNat by omega, BitVec.ofNat_toNat,
    BitVec.setWidth_eq] at hP

/-- The extended row of a byte is encoded as 0xCB and that byte (30_encoding.md R114). -/
theorem encode_decodeExtended (sub : Byte) : encode (decodeExtended sub) = [0xCB, sub] :=
  forall_byte_fields (fun sub => encode (decodeExtended sub) = [0xCB, sub]) (by decide) sub

/-- `i` is spelt by bytes that begin with `op`, as many as `op` announces (30_encoding.md R117). -/
abbrev BeginsWith (i : Instr) (op : Byte) : Prop :=
  (encode i).getD 0 0 = op ∧ (encode i).length = opLength op

/-- The instruction read from three bytes begins with the first of them. The two operand bytes stay variables while
the 256 opcodes are evaluated; only behind 0xCB does the row depend on them. -/
theorem beginsWith_decodeFetched (op b1 b2 : Byte) : BeginsWith (decodeFetched op b1 b2) op := by
  by_cases hop : op = 0xCB
  · subst hop
    rw [decodeFetched_prefix, BeginsWith, encode_decodeExtended]
    exact ⟨rfl, rfl⟩
  · exact forall_byte_fields (fun op => op ≠ 0xCB → BeginsWith (decodeFetched op b1 b2) op)
      (of_decide_eq_true rfl) op hop

/-- Settles O27: with the latch set the byte after the opcode is fetched at PC. -/
theorem haltBugFetchesTheByteTwice : Obligations.HaltBugFetchesTheByteTwice := by
  intro s hbug
  have haddr : s.operandAddress = s.pc := if_pos hbug
  have hfetched : s.fetched = decodeFetched (s.read s.pc) (s.read s.pc) (s.read (s.pc + 1)) := by
    rw [State.fetched, haddr, State.opcode]
  obtain ⟨-, hlength⟩ := beginsWith_decodeFetched (s.read s.pc) (s.read s.pc) (s.read (s.pc + 1))
  refine ⟨hfetched, ?_, fun hcb => ?_⟩
  · rw [hfetched, hlength, State.pcNext, haddr, State.opcode]
  · rw [hfetched, hcb, decodeFetched_prefix]
    rfl

/-! ### What a completed routine answers -/

/-- The next state of a routine: an ordinary one, the record of an unassigned row's fault, or one of the writers of
the control state with what it writes (10_state.md R33 to R37). -/
inductive Answer (s : State) : Instr → State → Prop where
  | ordinary {i : Instr} {t : State} (keeps : Keeps s t) (control : ControlKept s t)
      (cost : ∃ k, 1 ≤ k ∧ k ≤ 6 ∧ t.cycles = s.cycles + 4 * k) : Answer s i t
  | unassigned {i : Instr} {op : Byte} (row : (i, op) ∈ unassignedRows) : Answer s i (s.raiseInvalidOpcode op)
  | halt : Answer s .halt { s with halted := true, cycles := s.cycles + 4 }
  | haltBug (mode : s.haltBugMode = true) : Answer s .halt { s with haltBug := true, cycles := s.cycles + 4 }
  | stop (n : Byte) : Answer s (.stop n) { s with stopped := true, cycles := s.cycles + 4 }
  | ei : Answer s .ei { s with eiPending := true, cycles := s.cycles + 4 }
  | di : Answer s .di { s with ime := false, cycles := s.cycles + 4 }
  | reti : Answer s .reti { s with pc := s.stackTop, sp := s.sp + 2, ime := true, cycles := s.cycles + 16 }

theorem next_inj {t u : State} {r : Result} (h : r = .next t) (g : r = .next u) : t = u :=
  Host.Outcome.next.inj (h.symm.trans g)

/-- Every routine's next state is of one of the kinds. -/
theorem exec_answer {i : Instr} {s t : State} (h : exec i s = .next t) : Answer s i t := by
  cases execCase s i with
  | ordinary he hord =>
    obtain ⟨u, hu, hkeeps, hcontrol, hcost⟩ := hord
    obtain rfl := next_inj h (he.trans hu)
    exact .ordinary hkeeps hcontrol hcost
  | unassigned hrow =>
    obtain rfl := next_inj h (exec_unassigned hrow s)
    exact .unassigned hrow
  | halt =>
    rcases haltCore_cases s with ⟨-, he⟩ | ⟨-, -, hmode, he⟩ | ⟨-, -, -, he⟩ <;> obtain rfl := next_inj h he
    · exact .halt
    · exact .haltBug hmode
    · exact .ordinary (keeps_charge s 4) (controlKept_charge s 4) ⟨1, by decide, by decide, rfl⟩
  | stop n =>
    obtain rfl := next_inj h (stopCore_next s)
    exact .stop n
  | ei =>
    obtain rfl := next_inj h (enableInterrupts_next s)
    exact .ei
  | di =>
    obtain rfl := next_inj h (disableInterrupts_next s)
    exact .di
  | reti =>
    obtain rfl := next_inj h (returnFromInterrupt_next s)
    exact .reti

section

variable {i : Instr} {s t : State}

/-- No routine touches ROM, the cartridge or the launch parameter, nor breaks the canonical form or F's low nibble. -/
theorem Answer.keeps (h : Answer s i t) : Keeps s t := by
  cases h with
  | ordinary keeps _ _ => exact keeps
  | unassigned | halt | haltBug | stop | ei | di | reti => exact .of_eq rfl rfl rfl id

/-- A routine that records no fault costs 1 to 6 machine cycles. -/
theorem Answer.cost (h : Answer s i t) (hsound : t.fault = none) :
    ∃ k, 1 ≤ k ∧ k ≤ 6 ∧ t.cycles = s.cycles + 4 * k := by
  cases h with
  | ordinary _ _ cost => exact cost
  | unassigned => cases hsound
  | halt | haltBug | stop | ei | di => exact ⟨1, by decide, by decide, rfl⟩
  | reti => exact ⟨4, by decide, by decide, rfl⟩

/-- DI and RETI are the routines that write IME (10_state.md R33). -/
theorem Answer.ime (h : Answer s i t) (hne : t.ime ≠ s.ime) :
    (t.ime = true ∧ i = .reti) ∨ (t.ime = false ∧ i = .di) := by
  cases h with
  | ordinary _ control _ => exact absurd control.1 hne
  | unassigned | halt | haltBug | stop | ei => exact absurd rfl hne
  | di => exact .inr ⟨rfl, rfl⟩
  | reti => exact .inl ⟨rfl, rfl⟩

/-! ### The invariant, from what an operation keeps -/

/-- The part of the invariant about the latches and the suspension bits (10_state.md R34 to R37). -/
structure ControlConsistent (t : State) : Prop where
  latches : t.eiPending = true ∨ t.haltBug = true → t.halted = false ∧ t.stopped = false
  oneSuspension : ¬(t.halted = true ∧ t.stopped = true)
  bugMode : t.haltBug = true → t.haltBugMode = true

/-- The core runs, and neither latch waits for the next instruction. -/
structure Quiet (t : State) : Prop where
  eiPending : t.eiPending = false
  haltBug : t.haltBug = false
  halted : t.halted = false
  stopped : t.stopped = false

/-- `Keeps` and the consistency of the control state make up the invariant. -/
theorem State.Inv.of_keeps (hs : s.Inv) (hk : Keeps s t) (hc : ControlConsistent t) : t.Inv :=
  ⟨hk.lowNibble hs.lowNibble, hk.storage hs.storage, hc.latches, hc.oneSuspension, hc.bugMode⟩

theorem Quiet.consistent (h : Quiet t) : ControlConsistent t :=
  ⟨fun _ => ⟨h.halted, h.stopped⟩, by simp [h.halted], by simp [h.haltBug]⟩

theorem Quiet.of_controlKept (h : Quiet s) (hc : ControlKept s t) : Quiet t := by
  obtain ⟨-, hei, hhalted, hstopped, hbug, -⟩ := hc
  exact ⟨hei.trans h.eiPending, hbug.trans h.haltBug, hhalted.trans h.halted, hstopped.trans h.stopped⟩

/-- A routine that starts with no latch set leaves the control state consistent: HALT, STOP and EI each set one bit
(10_state.md R34 to R37, 46_system.md R451, R452). -/
theorem Answer.consistent (h : Answer s i t) (hs : Quiet s) : ControlConsistent t := by
  cases h with
  | ordinary _ control _ => exact (hs.of_controlKept control).consistent
  | unassigned | di | reti => exact Quiet.consistent ⟨hs.eiPending, hs.haltBug, hs.halted, hs.stopped⟩
  | halt => exact ⟨by simp [hs.eiPending, hs.haltBug], by simp [hs.stopped], by simp [hs.haltBug]⟩
  | haltBug mode => exact ⟨fun _ => ⟨hs.halted, hs.stopped⟩, by simp [hs.halted], fun _ => mode⟩
  | stop => exact ⟨by simp [hs.eiPending, hs.haltBug], by simp [hs.halted], by simp [hs.haltBug]⟩
  | ei => exact ⟨fun _ => ⟨hs.halted, hs.stopped⟩, by simp [hs.halted], by simp [hs.haltBug]⟩

end

/-! ### What surrounds the routine in a step -/

section

variable {s t u : State}

theorem keeps_routineStart (s : State) : Keeps s s.routineStart := by
  unfold State.routineStart
  split
  · exact .refl s
  · exact .of_eq rfl rfl rfl id

theorem routineStart_ime (s : State) : s.routineStart.ime = s.ime := by
  unfold State.routineStart
  split <;> rfl

theorem routineStart_cycles (s : State) : s.routineStart.cycles = s.cycles := by
  unfold State.routineStart
  split <;> rfl

/-- An unassigned byte is decoded to its own row (30_encoding.md R115). -/
theorem decodeFetched_unassigned {op : Byte} (h : isUnassigned op = true) (b1 b2 : Byte) :
    (decodeFetched op b1 b2, op) ∈ unassignedRows :=
  forall_byte_fields (fun op => isUnassigned op = true → (decodeFetched op b1 b2, op) ∈ unassignedRows)
    (of_decide_eq_true rfl) op h

/-- A routine that records no fault was fetched from an assigned byte, so it started with the latches consumed. -/
theorem quiet_routineStart (hs : s.Fetches) (hu : exec s.fetched s.routineStart = .next u) (hf : u.fault = none) :
    Quiet s.routineStart := by
  have hop : ¬isUnassigned s.opcode = true := by
    intro hop
    have hrow : (s.fetched, s.opcode) ∈ unassignedRows := decodeFetched_unassigned hop _ _
    obtain rfl := next_inj hu (exec_unassigned hrow _)
    cases hf
  rw [State.routineStart, if_neg hop]
  exact ⟨rfl, rfl, hs.notHalted, hs.notStopped⟩

theorem delayedEnable_consistent (s : State) (h : ControlConsistent u) : ControlConsistent (s.delayedEnable u) := by
  rcases delayedEnable_cases s u with ⟨-, -, he⟩ | ⟨-, he⟩ <;> rw [he]
  · exact ⟨h.latches, h.oneSuspension, h.bugMode⟩
  · exact h

theorem delayedEnable_cycles (s u : State) : (s.delayedEnable u).cycles = u.cycles := by
  rcases delayedEnable_cases s u with ⟨-, -, he⟩ | ⟨-, he⟩ <;> rw [he]

/-- A halted step wakes the core or does nothing, and costs 4 cycles (60_exceptions.md R506). -/
theorem haltedStep_cases (s : State) :
    s.haltedStep = { s with halted := false, cycles := s.cycles + 4 } ∨ s.haltedStep = s.charge 4 := by
  unfold State.haltedStep
  split
  · exact .inl rfl
  · exact .inr rfl

/-- A dispatch clears IME and both latches and touches no other control bit, nor the cycle counter
(60_exceptions.md R503). -/
theorem dispatch_control (s : State) :
    s.dispatch.ime = false ∧ s.dispatch.eiPending = false ∧ s.dispatch.haltBug = false ∧
      s.dispatch.halted = s.halted ∧ s.dispatch.stopped = s.stopped ∧ s.dispatch.cycles = s.cycles := by
  rw [dispatch_eq]
  refine ⟨rfl, rfl, rfl, ?_, ?_, ?_⟩ <;> dsimp only <;> split <;> simp

/-! ### Every step -/

/-- No step touches ROM, the cartridge or the launch parameter, nor breaks the canonical form or F's low nibble. -/
theorem step_keeps (h : step s = .next t) : Keeps s t := by
  obtain ⟨-, -, ⟨-, rfl⟩ | ⟨-, -, rfl⟩ | ⟨-, -, -, -, rfl⟩ | ⟨-, u, hu, -, rfl⟩⟩ := step_cases s t h
  · exact keeps_charge s 4
  · rcases haltedStep_cases s with he | he <;> rw [he] <;> exact .of_eq rfl rfl rfl id
  · exact (keeps_dispatch s).trans (keeps_charge _ 20)
  · exact ((keeps_routineStart s).trans (exec_answer hu).keeps).trans (keeps_delayedEnable s u)

/-- Every step from a state that meets the invariant leaves the latches and the suspension bits consistent. -/
theorem step_consistent (hs : s.Inv) (h : step s = .next t) : ControlConsistent t := by
  obtain ⟨-, -, ⟨-, rfl⟩ | ⟨hstopped, -, rfl⟩ | ⟨hstopped, hhalted, -, -, rfl⟩ | ⟨hfetch, u, hu, hf, rfl⟩⟩ :=
    step_cases s t h
  · exact ⟨hs.latches, hs.oneSuspension, hs.bugMode⟩
  · rcases haltedStep_cases s with he | he <;> rw [he]
    · exact ⟨fun _ => ⟨rfl, hstopped⟩, by simp, hs.bugMode⟩
    · exact ⟨hs.latches, hs.oneSuspension, hs.bugMode⟩
  · obtain ⟨-, hei, hbug, hh, hst, -⟩ := dispatch_control s
    exact Quiet.consistent ⟨hei, hbug, hh.trans hhalted, hst.trans hstopped⟩
  · exact delayedEnable_consistent s ((exec_answer hu).consistent (quiet_routineStart hfetch hu hf))

end

/-- Settles O17, from what every step keeps and the consistency of the control state after it. -/
theorem everyStepKeepsTheInvariant : Obligations.EveryStepKeepsTheInvariant :=
  fun _ _ hs h => hs.of_keeps (step_keeps h) (step_consistent hs h)

/-- Settles O18, from what every step keeps. -/
theorem noStepChangesTheCartridge : Obligations.NoStepChangesTheCartridge := by
  intro s t h
  have hkeeps := step_keeps h
  exact ⟨hkeeps.rom, hkeeps.banks, hkeeps.bugMode⟩

/-- Settles O28: a suspended step costs 1 machine cycle, a dispatch 5, and a routine its own cost. -/
theorem everyStepCostsWholeMachineCycles : Obligations.EveryStepCostsWholeMachineCycles := by
  intro s t h
  obtain ⟨-, -, ⟨-, rfl⟩ | ⟨-, -, rfl⟩ | ⟨-, -, -, -, rfl⟩ | ⟨-, u, hu, hf, rfl⟩⟩ := step_cases s t h
  · exact ⟨1, by decide, by decide, rfl⟩
  · rcases haltedStep_cases s with he | he <;> rw [he] <;> exact ⟨1, by decide, by decide, rfl⟩
  · obtain ⟨-, -, -, -, -, hcycles⟩ := dispatch_control s
    exact ⟨5, by decide, by decide, by rw [charge_cycles, hcycles]⟩
  · rw [delayedEnable_cycles, ← routineStart_cycles s]
    exact (exec_answer hu).cost hf

/-- The opcode at PC is the first byte of the instruction fetched there. -/
theorem opcode_eq_of_fetched {s : State} {i : Instr} (h : s.fetched = i) : s.read s.pc = (encode i).getD 0 0 := by
  rw [← h]
  exact (beginsWith_decodeFetched _ _ _).1.symm

/-- Settles O26: a suspended step keeps IME, a dispatch clears it with an interrupt pending, and a fetched
instruction writes it by EI's delayed enable or as RETI or DI. -/
theorem imeIsWrittenOnlyAsTheRuleSays : Obligations.ImeIsWrittenOnlyAsTheRuleSays := by
  intro s t h hne
  obtain ⟨-, -, ⟨-, rfl⟩ | ⟨-, -, rfl⟩ | ⟨-, -, -, hpending, rfl⟩ | ⟨-, u, hu, -, rfl⟩⟩ := step_cases s t h
  · exact absurd rfl hne
  · rcases haltedStep_cases s with he | he <;> rw [he] at hne <;> exact absurd rfl hne
  · exact .inr ⟨(dispatch_control s).1, .inl hpending⟩
  · rcases delayedEnable_cases s u with ⟨hei, -, he⟩ | ⟨-, he⟩ <;> rw [he] at hne ⊢
    · exact .inl ⟨rfl, .inl hei⟩
    · rcases (exec_answer hu).ime (routineStart_ime s ▸ hne) with ⟨hime, hi⟩ | ⟨hime, hi⟩
      · exact .inl ⟨hime, .inr (opcode_eq_of_fetched hi)⟩
      · exact .inr ⟨hime, .inr (opcode_eq_of_fetched hi)⟩

end Sys2Proof.Machine
end

section
/-! PROOFS of the memory family (20_memory.md). A read and a write of the bus are told by whether the address is
writable and by its cell address; the loader's answer by whether the header is sound (`HeaderSound`) and, if it is,
by its codes (`codeOutcome`). -/

namespace Sys2Proof.Machine

/-! ### What a read answers, by region -/

/-- Only the ROM region answers a cell that cannot be written (20_memory.md R58). -/
theorem lt_of_slot_eq_rom {ramBanks : Option Nat} {addr : Word} {k : Nat} (h : slot ramBanks addr = .rom k) :
    addr.toNat < 0x8000 := by
  rcases slot_cases ramBanks addr with h' | h' | h' | h' | h' | h' | h' | h' | h'
  · exact h'.1
  all_goals simp [h'] at h

/-- Above ROM, an address that is not writable has nothing behind it (20_memory.md R59, R60). -/
theorem read_of_not_writable (s : State) {addr : Word} (hle : 0x8000 ≤ addr.toNat) (hw : ¬Writable s addr) :
    s.read addr = 0xFF := by
  rcases slot_of_not_writable s addr hw with hslot | hslot
  · exact absurd (lt_of_slot_eq_rom hslot) (by omega)
  · rw [State.read, hslot]; rfl

/-- Outside the external RAM window and the gap, every address above ROM is writable (20_memory.md R51). -/
theorem writable_of_plain (s : State) {addr : Word} (hrom : 0x8000 ≤ addr.toNat)
    (heram : addr.toNat < 0xA000 ∨ 0xC000 ≤ addr.toNat) (hgap : addr.toNat < 0xFEA0 ∨ 0xFF00 ≤ addr.toNat) :
    Writable s addr :=
  ⟨hrom, by omega, by omega⟩

/-- Outside the echo an address has a cell of its own. -/
theorem cellAddress_of_not_echo {addr : Word} (h : addr.toNat < 0xE000 ∨ 0xFE00 ≤ addr.toNat) :
    cellAddress addr = addr :=
  if_neg (by omega)

/-- A writable address outside the echo answers the cell of its own address (20_memory.md R52). -/
theorem read_of_own_cell (s : State) {addr : Word} (hw : Writable s addr)
    (hecho : addr.toNat < 0xE000 ∨ 0xFE00 ≤ addr.toNat) : s.read addr = Memory.get s.mem addr.toNat := by
  rw [read_of_writable s hw, cellAddress_of_not_echo hecho]

/-- VRAM, WRAM, OAM, I/O, HRAM and IE answer the cell of their own address (20_memory.md R61 to R63). -/
theorem read_of_plain (s : State) {addr : Word} (hrom : 0x8000 ≤ addr.toNat)
    (heram : addr.toNat < 0xA000 ∨ 0xC000 ≤ addr.toNat) (hecho : addr.toNat < 0xE000 ∨ 0xFE00 ≤ addr.toNat)
    (hgap : addr.toNat < 0xFEA0 ∨ 0xFF00 ≤ addr.toNat) : s.read addr = Memory.get s.mem addr.toNat :=
  read_of_own_cell s (writable_of_plain s hrom heram hgap) hecho

/-- Settles O6, region by region: an address is in ROM, is writable, or has nothing behind it. -/
theorem everyAddressReadsItsRegion : Obligations.EveryAddressReadsItsRegion := by
  intro s addr
  refine ⟨fun hlt => ?_, fun hle hlt n hn hne => ?_, fun hle hlt hnone => ?_, fun hle hlt => ?_, fun hle hlt => ?_,
    fun hle hlt => ?_, fun hle hlt => ?_, fun hle => ?_⟩
  · by_cases hrom : addr.toNat < 0x8000
    · exact read_of_rom s hrom
    · exact read_of_plain s (by omega) (by omega) (by omega) (by omega)
  · exact read_of_own_cell s ⟨by omega, by omega, fun _ => ⟨n, hn, hne⟩⟩ (by omega)
  · refine read_of_not_writable s (by omega) fun ⟨_, _, heram⟩ => ?_
    obtain ⟨n, hn, hne⟩ := heram ⟨hle, by omega⟩
    simp [hn, hne] at hnone
  · exact read_of_plain s (by omega) (by omega) (by omega) (by omega)
  · rw [read_of_writable s (writable_of_plain s (by omega) (by omega) (by omega)), cellAddress_toNat,
      if_pos ⟨hle, by omega⟩]
  · exact read_of_plain s (by omega) (by omega) (by omega) (by omega)
  · exact read_of_not_writable s (by omega) fun ⟨_, hgap, _⟩ => hgap ⟨hle, by omega⟩
  · exact read_of_plain s (by omega) (by omega) (by omega) (by omega)

/-! ### What a write changes -/

/-- A write to ROM, the gap or absent external RAM changes no state (20_memory.md R53). -/
theorem write_of_not_writable (s : State) {addr : Word} (v : Byte) (hw : ¬Writable s addr) : s.write addr v = s := by
  rcases write_cases s addr v with ⟨h, -⟩ | ⟨-, he⟩
  · exact absurd h hw
  · exact he

/-- A write changes no field but the storage. -/
theorem write_frame (s : State) (addr : Word) (v : Byte) : { s.write addr v with mem := s.mem } = s := by
  rcases write_cases s addr v with ⟨-, he⟩ | ⟨-, he⟩ <;> rw [he]

/-- Settles O7, by the two cases of a bus write. -/
theorem busWriteReachesOneCell : Obligations.BusWriteReachesOneCell := by
  intro s addr v
  exact ⟨stored_write s addr v, write_frame s addr v, write_of_not_writable s v⟩

/-! ### The echo -/

/-- The echo of an address of 0xC000 to 0xDDFF, without wrapping. -/
theorem echo_toNat {addr : Word} (hlt : addr.toNat ≤ 0xDDFF) : (addr + 0x2000).toNat = addr.toNat + 0x2000 :=
  BitVec.toNat_add_of_lt (by simp; omega)

/-- The echo of a working-RAM address shares its cell (20_memory.md R54). -/
theorem cellAddress_echo {addr : Word} (hle : 0xC000 ≤ addr.toNat) (hlt : addr.toNat ≤ 0xDDFF) :
    cellAddress (addr + 0x2000) = addr := by
  have hsum := echo_toNat hlt
  rw [cellAddress, if_pos (by omega), BitVec.add_sub_cancel]

/-- The cell of 0xDE00 to 0xDFFF is reached by its own address alone (20_memory.md R54). -/
theorem cellAddress_eq_iff_of_no_echo {addr other : Word} (hle : 0xDE00 ≤ addr.toNat) (hlt : addr.toNat ≤ 0xDFFF) :
    cellAddress other = cellAddress addr ↔ other = addr := by
  refine ⟨fun h => BitVec.eq_of_toNat_eq ?_, fun h => h ▸ rfl⟩
  have hcell := congrArg BitVec.toNat h
  rw [cellAddress_toNat, cellAddress_toNat] at hcell
  split at hcell <;> split at hcell <;> omega

/-- Settles O8: a working-RAM address and its echo have one cell, and 0xDE00 to 0xDFFF have no second address. -/
theorem echoAliasesWorkingRam : Obligations.EchoAliasesWorkingRam := by
  refine ⟨fun s addr v hle hlt => ?_, fun s addr other v hle hlt hne => ?_⟩
  · have hsum := echo_toNat hlt
    have hw : Writable s addr := writable_of_plain s (by omega) (by omega) (by omega)
    have hwEcho : Writable s (addr + 0x2000) := writable_of_plain s (by omega) (by omega) (by omega)
    have hcell : cellAddress (addr + 0x2000) = cellAddress addr := by
      rw [cellAddress_echo hle hlt, cellAddress_of_not_echo (by omega)]
    exact ⟨(read_write s addr _ v).2 hw hcell, (read_write s _ addr v).2 hwEcho hcell.symm,
      by rw [read_of_writable s hwEcho, read_of_writable s hw, hcell]⟩
  · obtain ⟨-, -, hframe⟩ := stored_write s addr v
    exact hframe other fun h => hne ((cellAddress_eq_iff_of_no_echo hle hlt).1 h)

/-! ### The header's checks -/

theorem titleBytes_length (byteAt : Nat → Byte) : (titleBytes byteAt).length = 15 := by simp [titleBytes]

theorem titleBytes_getD (byteAt : Nat → Byte) {i : Nat} (hi : i < 15) :
    (titleBytes byteAt).getD i 0 = byteAt (0x134 + i) := by
  simp [titleBytes, hi]

/-- The rule of a valid title, on the bytes of the header (20_memory.md R76). -/
theorem titleValid_titleBytes_iff (byteAt : Nat → Byte) :
    titleValid (titleBytes byteAt) = true ↔
      (∀ i < 15, byteAt (0x134 + i) = 0 ∨
          0x20 ≤ (byteAt (0x134 + i)).toNat ∧ (byteAt (0x134 + i)).toNat ≤ 0x7E) ∧
        ∀ j < 15, ∀ i < j, byteAt (0x134 + i) = 0 →
          ¬(0x20 ≤ (byteAt (0x134 + j)).toNat ∧ (byteAt (0x134 + j)).toNat ≤ 0x7E) := by
  rw [titleValid_iff, titleBytes_length]
  refine and_congr (forall₂_congr fun i hi => ?_) (forall₂_congr fun j hj => forall₂_congr fun i hij => ?_)
  · rw [titleBytes_getD byteAt hi, isPrintable_iff]
  · rw [titleBytes_getD byteAt (by omega), titleBytes_getD byteAt hj, isPrintable_iff]

/-- The checksum's loop subtracts, modulo 256, each byte and one more (20_memory.md R77). -/
theorem foldl_checksum_add_sum (f : Nat → Byte) (l : List Nat) (c : Byte) :
    ((l.foldl (fun c i => c - f i - 1) c).toNat + (l.map fun i => (f i).toNat + 1).sum) % 256 = c.toNat := by
  induction l generalizing c with
  | nil => simpa using Nat.mod_eq_of_lt c.isLt
  | cons i rest ih =>
    rw [List.foldl_cons, List.map_cons, List.sum_cons]
    have hrest := ih (c - f i - 1)
    have hstep : ((c - f i - 1).toNat + (f i).toNat + 1) % 256 = c.toNat := by bv_omega
    omega

/-- The stored checksum is the right one when it completes the sum to a multiple of 256 (20_memory.md R77). -/
theorem headerChecksum_eq_iff (byteAt : Nat → Byte) :
    headerChecksum byteAt = byteAt 0x14D ↔
      (((List.range 25).map fun i => (byteAt (0x134 + i)).toNat + 1).sum + (byteAt 0x14D).toNat) % 256 = 0 := by
  have hsum := foldl_checksum_add_sum (fun i => byteAt (0x134 + i)) (List.range 25) 0
  rw [← headerChecksum] at hsum
  have hlt := (headerChecksum byteAt).isLt
  have hlt' := (byteAt 0x14D).isLt
  rw [← BitVec.toNat_inj]
  change _ = 0 at hsum
  omega

/-! ### The codes of the header -/

/-- The recognized cartridge types other than ROM only (20_memory.md R78). -/
abbrev mapperCodes : List Nat :=
  [0x01, 0x02, 0x03, 0x05, 0x06, 0x08, 0x09, 0x0B, 0x0C, 0x0D, 0x0F, 0x10, 0x11, 0x12, 0x13,
    0x19, 0x1A, 0x1B, 0x1C, 0x1D, 0x1E, 0x20, 0x22, 0xFC, 0xFD, 0xFE, 0xFF]

theorem mapperKind_of_zero {code : Byte} (h : code.toNat = 0) : mapperKind code = .romOnly :=
  if_pos (BitVec.eq_of_toNat_eq h)

theorem mapperKind_of_recognized {code : Byte} (h : code.toNat ∈ mapperCodes) : mapperKind code = .unsupported := by
  have hne : code ≠ 0 := by rintro rfl; exact absurd h (by decide)
  rw [mapperKind, if_neg hne, if_pos (List.contains_iff_mem.2 h)]

theorem mapperKind_of_unrecognized {code : Byte} (h : code.toNat ∉ 0x00 :: mapperCodes) :
    mapperKind code = .unrecognized := by
  have hne : code ≠ 0 := by rintro rfl; exact h List.mem_cons_self
  rw [mapperKind, if_neg hne, if_neg (mt List.contains_iff_mem.1 (List.not_mem_of_not_mem_cons h))]

theorem ramBankCount_of_mem {code : Byte} {banks : Nat}
    (h : (code.toNat, banks) ∈ [(0, 0), (2, 1), (3, 4), (4, 16), (5, 8)]) : ramBankCount code = some banks := by
  simp only [List.mem_cons, Prod.mk.injEq, List.not_mem_nil, or_false] at h
  rcases h with ⟨hcode, rfl⟩ | ⟨hcode, rfl⟩ | ⟨hcode, rfl⟩ | ⟨hcode, rfl⟩ | ⟨hcode, rfl⟩ <;>
    simp only [ramBankCount, hcode]

theorem ramBankCount_of_not_mem {code : Byte} (h : code.toNat ∉ [0, 2, 3, 4, 5]) : ramBankCount code = none := by
  unfold ramBankCount
  split
  case h_6 => rfl
  all_goals rename_i hcode; simp [hcode] at h

theorem romBankCount_of_le {code : Byte} (h : code.toNat ≤ 8) : romBankCount code = some (2 ^ (code.toNat + 1)) :=
  if_pos h

theorem romBankCount_of_gt {code : Byte} (h : 8 < code.toNat) : romBankCount code = none := if_neg (by omega)

/-! ### The outcomes of the checks (20_memory.md R81) -/

/-- The buffer passes the checks of R75 to R77: its size, its title and its checksum. -/
structure HeaderSound (size : Nat) (byteAt : Nat → Byte) : Prop where
  size : 0x8000 ≤ size
  title : titleValid (titleBytes byteAt) = true
  checksum : headerChecksum byteAt = byteAt 0x14D

/-- What the codes of a sound header decide: its cartridge type and its RAM and ROM sizes (20_memory.md R78, R79). -/
def codeOutcome : MapperKind → Option Nat → Option Nat → Except CartridgeError (Nat × Nat)
  | .unsupported, _, _ => .error .unsupportedMapper
  | .unrecognized, _, _ => .error .invalidCartridgeType
  | .romOnly, some ram, some rom => .ok (ram, rom)
  | .romOnly, _, _ => .error .invalidCartridgeType

theorem codeOutcome_of_none {ram rom : Option Nat} (h : ram = none ∨ rom = none) :
    codeOutcome .romOnly ram rom = .error .invalidCartridgeType := by
  rcases h with rfl | rfl
  · rfl
  · cases ram <;> rfl

/-- Past the first three checks the codes decide (20_memory.md R81). -/
theorem checkHeader_of_sound {size : Nat} {byteAt : Nat → Byte} (h : HeaderSound size byteAt) :
    checkHeader size byteAt = codeOutcome (mapperKind (byteAt 0x147)) (ramBankCount (byteAt 0x149))
      (romBankCount (byteAt 0x148)) := by
  rw [checkHeader, if_neg (Nat.not_lt.2 h.size), if_neg (by simp [h.title]), if_neg (not_not.2 h.checksum)]
  cases mapperKind (byteAt 0x147)
  case romOnly => cases ramBankCount (byteAt 0x149) <;> cases romBankCount (byteAt 0x148) <;> rfl
  all_goals rfl

theorem checkHeader_of_not_sound {size : Nat} {byteAt : Nat → Byte} (h : ¬HeaderSound size byteAt) :
    checkHeader size byteAt = .error .corruptCartridge := by
  unfold checkHeader
  split
  · rfl
  split
  · rfl
  split
  · rfl
  · rename_i hsize htitle hsum
    exact absurd ⟨Nat.not_lt.1 hsize, by simpa using htitle, not_not.1 hsum⟩ h

/-- A header that passes every check is sound. -/
theorem headerSound_of_ok {size : Nat} {byteAt : Nat → Byte} {banks : Nat × Nat}
    (h : checkHeader size byteAt = .ok banks) : HeaderSound size byteAt := by
  by_contra hsound
  rw [checkHeader_of_not_sound hsound] at h
  cases h

/-! ### The cartridge of an accepted buffer -/

/-- A valid title holds only 0x00 from its first 0x00 on (20_memory.md R76). -/
theorem getD_of_titleValid {title : List Byte} (h : titleValid title = true) {k : Nat}
    (hk : (title.takeWhile (· != 0)).length ≤ k) : title.getD k 0 = 0 := by
  induction title generalizing k with
  | nil => rfl
  | cons v rest ih =>
    by_cases hv : v = 0
    · rw [titleValid, if_pos hv, all_zero_iff] at h
      cases k with
      | zero => exact hv
      | succ k =>
        rcases Nat.lt_or_ge k rest.length with hlt | hge
        · exact h k hlt
        · exact List.getD_eq_default _ _ (Nat.succ_le_succ hge)
    · rw [titleValid, if_neg hv, Bool.and_eq_true] at h
      obtain ⟨-, hrest⟩ := h
      rw [List.takeWhile_cons_of_pos (by simpa using hv), List.length_cons] at hk
      obtain ⟨k, rfl⟩ := Nat.exists_eq_succ_of_ne_zero (by omega : k ≠ 0)
      exact ih hrest (by omega)

/-- The title bytes of a buffer that reaches past them, as a slice of it. -/
theorem titleBytes_eq_slice {bytes : List Byte} (h : 0x8000 ≤ bytes.length) :
    titleBytes (fun i => bytes.getD i 0) = (bytes.drop 0x134).take 15 := by
  apply List.ext_getElem
  · simp [titleBytes]; omega
  · intro i h1 h2
    have : 0x134 + i < bytes.length := by simp at h2; omega
    simp [titleBytes, this]

theorem loadCartridge_of_error {bytes : List Byte} {err : CartridgeError}
    (h : checkHeader bytes.length (fun i => bytes.getD i 0) = .error err) : loadCartridge bytes = .error err := by
  rw [loadCartridge, h]

theorem loadCartridge_of_ok {bytes : List Byte} {ram rom : Nat}
    (h : checkHeader bytes.length (fun i => bytes.getD i 0) = .ok (ram, rom)) :
    loadCartridge bytes =
      .ok ⟨(titleBytes fun i => bytes.getD i 0).takeWhile (· != 0), ram, rom, bytes.take 0x8000⟩ := by
  rw [loadCartridge, h]

/-- An accepted buffer gives its bank counts and the title before the first 0x00 (20_memory.md R76, R79). -/
theorem loadCartridge_ok {bytes : List Byte} {cart : Cartridge} (h : loadCartridge bytes = .ok cart) :
    checkHeader bytes.length (fun i => bytes.getD i 0) = .ok (cart.ramBanks, cart.romBanks) ∧
      cart.title = (titleBytes fun i => bytes.getD i 0).takeWhile (· != 0) := by
  cases hcheck : checkHeader bytes.length (fun i => bytes.getD i 0) with
  | error err => rw [loadCartridge_of_error hcheck] at h; cases h
  | ok banks => rw [loadCartridge_of_ok hcheck] at h; cases h; exact ⟨rfl, rfl⟩

/-- The title of an accepted buffer is a slice of it without 0x00, with only 0x00 after it (20_memory.md R76). -/
theorem title_of_loadCartridge {bytes : List Byte} {cart : Cartridge} (h : loadCartridge bytes = .ok cart) :
    ∃ n ≤ 15, cart.title = (bytes.drop 0x134).take n ∧ 0 ∉ cart.title ∧
      ∀ k < 15, n ≤ k → bytes.getD (0x134 + k) 0 = 0 := by
  obtain ⟨hcheck, htitle⟩ := loadCartridge_ok h
  obtain ⟨hsize, hvalid, -⟩ := headerSound_of_ok hcheck
  have hprefix : cart.title <+: titleBytes fun i => bytes.getD i 0 := htitle ▸ List.takeWhile_prefix _
  have hlength : cart.title.length ≤ 15 := titleBytes_length _ ▸ hprefix.length_le
  refine ⟨cart.title.length, hlength, ?_, fun hmem => ?_, fun k hk hle => ?_⟩
  · rw [titleBytes_eq_slice hsize] at hprefix
    exact List.prefix_iff_eq_take.1 (hprefix.trans (List.take_prefix 15 _))
  · exact absurd (List.mem_takeWhile_imp (htitle ▸ hmem)) (by decide)
  · exact (titleBytes_getD _ hk).symm.trans (getD_of_titleValid hvalid (htitle ▸ hle))

/-- Settles O14, by the outcomes of the checks, the sum a checksum completes and the title of a valid header. -/
theorem loaderChecksInOrder : Obligations.LoaderChecksInOrder := by
  refine ⟨fun size at_ => ?_, fun bytes cart h => ⟨(loadCartridge_ok h).1, title_of_loadCartridge h⟩⟩
  intro printable titleOk sum sumOk
  have hsound : HeaderSound size at_ ↔ 0x8000 ≤ size ∧ titleOk ∧ sumOk :=
    ⟨fun ⟨hsize, htitle, hsum⟩ =>
        ⟨hsize, (titleValid_titleBytes_iff at_).1 htitle, (headerChecksum_eq_iff at_).1 hsum⟩,
      fun ⟨hsize, htitle, hsum⟩ =>
        ⟨hsize, (titleValid_titleBytes_iff at_).2 htitle, (headerChecksum_eq_iff at_).2 hsum⟩⟩
  refine ⟨fun hbad => checkHeader_of_not_sound fun h => ?_, fun hsize htitle hsum => ?_⟩
  · obtain ⟨hsize, htitle, hsum⟩ := hsound.1 h
    rcases hbad with hbad | hbad | hbad
    · omega
    · exact hbad htitle
    · exact hbad hsum
  · have h := hsound.2 ⟨hsize, htitle, hsum⟩
    rw [checkHeader_of_sound h]
    refine ⟨fun hmem => ?_, fun hmem => ?_, fun hzero => ?_⟩
    · rw [mapperKind_of_recognized hmem]; rfl
    · rw [mapperKind_of_unrecognized hmem]; rfl
    · rw [mapperKind_of_zero hzero]
      refine ⟨fun hbad => codeOutcome_of_none (hbad.imp ramBankCount_of_not_mem romBankCount_of_gt),
        fun banks hmem hle => ?_⟩
      rw [ramBankCount_of_mem hmem, romBankCount_of_le hle]; rfl

/-! ### The mapping -/

theorem load_of_error (s : State) {bytes : List Byte} {err : CartridgeError}
    (h : loadCartridge bytes = .error err) : s.load bytes = .error err := by
  rw [State.load, h]

theorem load_of_ok (s : State) {bytes : List Byte} {cart : Cartridge} (h : loadCartridge bytes = .ok cart) :
    s.load bytes = .ok (s.mapCartridge cart) := by
  rw [State.load, h]

/-- Mapping a cartridge leaves every cell above ROM (20_memory.md R80). -/
theorem mapCartridge_get_of_ram (s : State) {cart : Cartridge} (hlength : cart.rom.length ≤ 0x8000) {k : Nat}
    (hk : 0x8000 ≤ k) : Memory.get (s.mapCartridge cart).mem k = Memory.get s.mem k := by
  rw [get_mapCartridge s cart hlength, if_neg (Nat.not_lt.2 hk)]

/-- Settles O15: the image's first 0x8000 bytes are the ROM, and every other cell and field is as before. -/
theorem loadMapsTheImage : Obligations.LoadMapsTheImage := by
  intro s bytes
  refine ⟨fun err h => load_of_error s (loadCartridge_of_error h), rfl, rfl, fun ram rom h => ?_⟩
  have hload := loadCartridge_of_ok h
  exact ⟨_, load_of_ok s hload, fun _ => mapCartridge_read_of_rom s (loadCartridge_rom hload),
    fun _ => mapCartridge_get_of_ram s (by simp), rfl, rfl⟩

end Sys2Proof.Machine
end

section
/-! PROOFS of the encoding family (30_encoding.md). What the decoder reads is spelt by the bytes it was read from
(`encode_decodeFetched`); with the decoder's reading of `encode` (`decodeFetched_encode`) both round trips follow. A
step is `execute`, whose instruction is the one the list decoder reads at PC. -/

namespace Sys2Proof.Machine

open Sys2Proof.Claims

/-! ### The length of an instruction -/

/-- The first list of 30_encoding.md R117. -/
def threeByteOpcodes : List Nat :=
  [0x01, 0x11, 0x21, 0x31, 0x08, 0xC2, 0xC3, 0xC4, 0xCA, 0xCC, 0xCD, 0xD2, 0xD4, 0xDA, 0xDC, 0xEA, 0xFA]

/-- The second list of 30_encoding.md R117. -/
def twoByteOpcodes : List Nat :=
  [0x06, 0x0E, 0x16, 0x1E, 0x26, 0x2E, 0x36, 0x3E, 0x10, 0x18, 0x20, 0x28, 0x30, 0x38, 0xC6, 0xCE, 0xD6, 0xDE, 0xE6,
    0xEE, 0xF6, 0xFE, 0xE0, 0xE8, 0xF0, 0xF8, 0xCB]

/-- The length is defined by the two lists. -/
theorem opLength_eq (op : Byte) :
    opLength op =
      if threeByteOpcodes.contains op.toNat then 3 else if twoByteOpcodes.contains op.toNat then 2 else 1 :=
  rfl

/-- The two lists of the rule have no opcode in common. -/
theorem not_mem_twoByteOpcodes : ∀ k ∈ threeByteOpcodes, k ∉ twoByteOpcodes := by decide

/-- The lists of the rule are exclusive, so each opcode has the length of the one list it is in. -/
theorem opLength_cases (op : Byte) :
    (op.toNat ∈ threeByteOpcodes ∧ op.toNat ∉ twoByteOpcodes ∧ opLength op = 3) ∨
      (op.toNat ∈ twoByteOpcodes ∧ op.toNat ∉ threeByteOpcodes ∧ opLength op = 2) ∨
      (op.toNat ∉ threeByteOpcodes ++ twoByteOpcodes ∧ opLength op = 1) := by
  rw [opLength_eq]
  by_cases h3 : op.toNat ∈ threeByteOpcodes
  · exact .inl ⟨h3, not_mem_twoByteOpcodes _ h3, if_pos (List.contains_iff_mem.2 h3)⟩
  · rw [if_neg (mt List.contains_iff_mem.1 h3)]
    by_cases h2 : op.toNat ∈ twoByteOpcodes
    · exact .inr (.inl ⟨h2, h3, if_pos (List.contains_iff_mem.2 h2)⟩)
    · exact .inr (.inr ⟨by simp [h3, h2], if_neg (mt List.contains_iff_mem.1 h2)⟩)

/-- Settles O3, by the lists the length is defined by. -/
theorem lengthFromFirstByte : Obligations.LengthFromFirstByte := by
  intro op tail htail
  have hlen := opLength_range op
  refine ⟨_, _, decode_cons op tail (by omega), ?_⟩
  change (op.toNat ∈ threeByteOpcodes → _) ∧ (op.toNat ∈ twoByteOpcodes → _) ∧
    (op.toNat ∉ threeByteOpcodes ++ twoByteOpcodes → _)
  rcases opLength_cases op with ⟨h3, h2, hop⟩ | ⟨h2, h3, hop⟩ | ⟨h1, hop⟩ <;> rw [hop]
  · exact ⟨fun _ => rfl, fun h => absurd h h2, fun h => absurd (List.mem_append_left _ h3) h⟩
  · exact ⟨fun h => absurd h h3, fun _ => rfl, fun h => absurd (List.mem_append_right _ h2) h⟩
  · exact ⟨fun h => absurd (List.mem_append_left _ h) h1, fun h => absurd (List.mem_append_right _ h) h1, fun _ => rfl⟩

/-! ### What the decoder reads is spelt by the bytes it was read from -/

/-- A row with a 16-bit immediate unpacks it again, low byte first (30_encoding.md R102). -/
theorem encode_decodeFetched_of_threeByte {op : Byte} (h : op.toNat ∈ threeByteOpcodes) (b1 b2 : Byte) :
    encode (decodeFetched op b1 b2) = [op, b1, b2] := by
  have key : ∀ k ∈ threeByteOpcodes, encode (decodeFetched (BitVec.ofNat 8 k) b1 b2) =
      [BitVec.ofNat 8 k, loByte (pack b2 b1), hiByte (pack b2 b1)] := by
    intro k hk
    fin_cases hk <;> rfl
  have := key _ h
  rwa [BitVec.ofNat_toNat, BitVec.setWidth_eq, loByte_pack, hiByte_pack] at this

/-- A row with one byte after the opcode writes it back; behind 0xCB, the last of the list, the byte names the row. -/
theorem encode_decodeFetched_of_twoByte {op : Byte} (h : op.toNat ∈ twoByteOpcodes) (b1 b2 : Byte) :
    encode (decodeFetched op b1 b2) = [op, b1] := by
  have key : ∀ k ∈ twoByteOpcodes, encode (decodeFetched (BitVec.ofNat 8 k) b1 b2) = [BitVec.ofNat 8 k, b1] := by
    intro k hk
    fin_cases hk
    on_goal 27 => exact encode_decodeExtended b1
    all_goals rfl
  have := key _ h
  rwa [BitVec.ofNat_toNat, BitVec.setWidth_eq] at this

/-- The instruction read from three bytes is spelt by as many of them as the first announces. -/
theorem encode_decodeFetched (op b1 b2 : Byte) :
    encode (decodeFetched op b1 b2) = [op, b1, b2].take (opLength op) := by
  rcases opLength_cases op with ⟨h3, -, hop⟩ | ⟨h2, -, hop⟩ | ⟨-, hop⟩
  · rw [hop, encode_decodeFetched_of_threeByte h3]; rfl
  · rw [hop, encode_decodeFetched_of_twoByte h2]; rfl
  · obtain ⟨hfirst, hlength⟩ := beginsWith_decodeFetched op b1 b2
    obtain ⟨b, hb⟩ := List.length_eq_one_iff.1 (hlength.trans hop)
    rw [hb] at hfirst ⊢
    rw [hop, ← hfirst]; rfl

/-- Of a list that is long enough, only its first three bytes matter. -/
theorem take_head_bytes (op : Byte) (tail : List Byte) {n : Nat} (hn : n ≤ 3) (h : n ≤ tail.length + 1) :
    [op, tail.getD 0 0, tail.getD 1 0].take n = (op :: tail).take n := by
  match n, tail with
  | 0, _ | 1, _ | 2, _ :: _ | 3, _ :: _ :: _ => rfl

theorem encode_decodeFetched_cons {op : Byte} {tail : List Byte} (h : opLength op ≤ tail.length + 1) :
    encode (decodeFetched op (tail.getD 0 0) (tail.getD 1 0)) = (op :: tail).take (opLength op) := by
  rw [encode_decodeFetched, take_head_bytes op tail (opLength_range op).2 h]

theorem wf_decodeExtended (sub : Byte) : (decodeExtended sub).wf = true :=
  forall_byte_fields (fun sub => (decodeExtended sub).wf = true) (by decide) sub

/-- The decoder never answers PREFIX CB itself (30_encoding.md R111). -/
theorem wf_decodeFetched (op b1 b2 : Byte) : (decodeFetched op b1 b2).wf = true := by
  by_cases hop : op = 0xCB
  · rw [hop, decodeFetched_prefix]
    exact wf_decodeExtended b1
  · exact forall_byte_fields (fun op => op ≠ 0xCB → (decodeFetched op b1 b2).wf = true) (of_decide_eq_true rfl) op hop

/-! ### The round trips -/

theorem encode_injective {i j : Instr} (hi : i.wf = true) (hj : j.wf = true) (h : encode i = encode j) : i = j := by
  obtain ⟨op, tail, hop, rfl⟩ := decodeFetched_encode i hi
  obtain ⟨op', tail', hop', rfl⟩ := decodeFetched_encode j hj
  obtain ⟨rfl, rfl⟩ := List.cons.inj (hop.symm.trans (h.trans hop'))
  rfl

/-- The encoding of a well-formed instruction is as long as its first byte announces (30_encoding.md R117). -/
theorem encode_eq_cons {i : Instr} (h : i.wf = true) :
    ∃ op tail, encode i = op :: tail ∧ (op :: tail).length = opLength op := by
  obtain ⟨op, tail, hcons, hi⟩ := decodeFetched_encode i h
  obtain ⟨-, hlength⟩ := beginsWith_decodeFetched op (tail.getD 0 0) (tail.getD 1 0)
  rw [hi, hcons] at hlength
  exact ⟨op, tail, hcons, hlength⟩

/-- Settles O1: the instruction decoded from `encode i` and what follows is spelt by the same bytes as `i`. -/
theorem decodeOfEncode : Obligations.DecodeOfEncode := by
  intro i rest h
  obtain ⟨op, tail, hcons, hlength⟩ := encode_eq_cons h
  have hle : opLength op ≤ (tail ++ rest).length + 1 := by
    rw [← hlength, List.length_cons, List.length_append]
    omega
  have hspelt := encode_decodeFetched_cons hle
  rw [← List.cons_append, List.take_left' hlength, ← hcons] at hspelt
  rw [hcons, List.cons_append, decode_cons op _ hle, encode_injective (wf_decodeFetched _ _ _) h hspelt,
    List.drop_left' (Nat.eq_sub_of_add_eq hlength)]

/-- Settles O2: the bytes the decoder consumes are those that spell what it read. -/
theorem encodeOfDecode : Obligations.EncodeOfDecode := by
  intro bytes i rest h
  obtain ⟨op, tail, rfl, hle, rfl, rfl⟩ := decode_ok bytes i rest h
  refine ⟨wf_decodeFetched _ _ _, ?_⟩
  rw [encode_decodeFetched_cons hle, ← List.drop_cons (opLength_range op).1]
  exact List.take_append_drop _ _

/-- Settles O4, by running the decoder on each word. -/
theorem wordsOfTheOpcodeMap : Obligations.WordsOfTheOpcodeMap :=
  ⟨rfl, rfl, rfl, rfl, rfl, rfl, rfl, rfl, rfl, rfl, rfl⟩

/-! ### PREFIX CB -/

/-- The extended row runs the routine that PREFIX CB selects by the fields of the sub-opcode (46_system.md R455). -/
theorem exec_decodeExtended (sub : Byte) (s : State) : exec (decodeExtended sub) s = runExtended sub s := by
  rw [decodeExtended, runExtended]
  match fieldX sub, r8Field (fieldZ sub) with
  | 0, .reg r => exact exec_rowShiftR _ r s
  | 0, .memHl => exact exec_rowShiftHl _ s
  | 1, .reg r => exact exec_rowBitR _ r s
  | 1, .memHl => exact exec_rowBitHl _ s
  | 2, .reg r => exact exec_rowResR _ r s
  | 2, .memHl => exact exec_rowResHl _ s
  | _ + 3, .reg r => exact exec_rowSetR _ r s
  | _ + 3, .memHl => exact exec_rowSetHl _ s

/-- Settles O5: both rows run `runExtended`, which completes. -/
theorem prefixRunsTheExtendedRoutine : Obligations.PrefixRunsTheExtendedRoutine := by
  intro sub b2 s
  obtain ⟨t, ht, -⟩ := ordinary_runExtended s sub
  exact ⟨decodeFetched_prefix sub b2, t, ht, (exec_decodeExtended sub s).trans ht⟩

/-! ### The unassigned bytes -/

theorem isUnassigned_iff (op : Byte) : isUnassigned op = true ↔ op ∈ unassignedBytes := by
  change (unassignedBytes.map BitVec.toNat).contains op.toNat = true ↔ _
  rw [List.contains_iff_mem, List.mem_map_of_injective fun _ _ => BitVec.eq_of_toNat_eq]

/-- An unassigned row is spelt by its byte, and the byte is an unassigned one (30_encoding.md R115). -/
theorem encode_unassigned {i : Instr} {op : Byte} (h : (i, op) ∈ unassignedRows) :
    encode i = [op] ∧ op ∈ unassignedBytes := by
  have key : ∀ row ∈ unassignedRows, encode row.1 = [row.2] ∧ row.2 ∈ unassignedBytes := by decide
  exact key _ h

/-- A step that fetches an unassigned byte raises InvalidOpcode with it (30_encoding.md R110, R115). -/
theorem step_of_unassigned {s : State} (hs : s.Fetches) (hop : s.opcode ∈ unassignedBytes) :
    step s = .fault (.invalidOpcode s.pc s.opcode) := by
  have hun := (isUnassigned_iff s.opcode).2 hop
  have hexec : exec s.fetched s.routineStart = .next (s.raiseInvalidOpcode s.opcode) := by
    rw [State.routineStart, if_pos hun]
    exact exec_unassigned (decodeFetched_unassigned hun _ _) s
  rw [step_of_fetches s hs, State.execute, hexec]
  rfl

/-- Settles O21, by the step at an unassigned byte and the routine of its row. -/
theorem unassignedBytesRaiseInvalidOpcode : Obligations.UnassignedBytesRaiseInvalidOpcode :=
  ⟨fun _ hs hop => step_of_unassigned hs hop,
    fun s _ _ h => ⟨(encode_unassigned h).1, exec_unassigned h s⟩⟩

/-! ### The step at an assigned byte -/

section

variable {s : State}

/-- The list decoder reads at PC the instruction that the step fetches. -/
theorem fetched_of_decode {i : Instr} {rest : List Byte}
    (h : decode [s.opcode, s.read s.operandAddress, s.read (s.operandAddress + 1)] = .ok (i, rest)) :
    s.fetched = i := by
  rw [decode_cons _ _ (opLength_range _).2] at h
  exact (Prod.mk.inj (Except.ok.inj h)).1

/-- PCnext is past all the bytes of the fetched instruction (30_encoding.md R110). -/
theorem pcNext_eq (s : State) :
    s.pcNext = s.operandAddress + BitVec.ofNat 16 ((encode s.fetched).length - 1) := by
  rw [State.pcNext, State.fetched, (beginsWith_decodeFetched _ _ _).2]

theorem routineStart_of_assigned (hop : s.opcode ∉ unassignedBytes) :
    s.routineStart = { s with pc := s.pcNext, eiPending := false, haltBug := false } :=
  if_neg (mt (isUnassigned_iff _).1 hop)

/-- DI is the instruction of the opcode 0xF3 (30_encoding.md R108). -/
theorem opcode_eq_di_iff : s.opcode = 0xF3 ↔ s.fetched = .di := by
  refine ⟨fun h => ?_, fun h => opcode_eq_of_fetched h⟩
  rw [State.fetched, h]
  rfl

theorem delayedEnable_eq (s t : State) :
    s.delayedEnable t = if s.eiPending = true ∧ s.fetched ≠ .di then { t with ime := true } else t := by
  simp only [State.delayedEnable, Bool.and_eq_true, bne_iff_ne, ne_eq, opcode_eq_di_iff]

/-- An assigned opcode is decoded to a row whose routine completes and records no fault. -/
theorem exec_fetched_of_assigned (hop : s.opcode ∉ unassignedBytes) (u : State) :
    ∃ t, exec s.fetched u = .next t ∧ t.fault = u.fault := by
  obtain ⟨t, ht, hfault⟩ := everyInstructionCompletes s.fetched u
  refine ⟨t, ht, hfault fun hrow => hop ?_⟩
  obtain ⟨⟨i, op⟩, hmem, hi⟩ := List.mem_map.1 hrow
  obtain ⟨hspelt, hunassigned⟩ := encode_unassigned hmem
  have hopcode : s.opcode = op := (opcode_eq_of_fetched hi.symm).trans (by rw [hspelt]; rfl)
  exact hopcode ▸ hunassigned

/-- The step at an assigned opcode runs the routine of the fetched instruction (30_encoding.md R109, R110). -/
theorem step_of_assigned (hs : s.Fetches) (hop : s.opcode ∉ unassignedBytes) :
    ∃ t, exec s.fetched s.routineStart = .next t ∧ step s = .next (s.delayedEnable t) := by
  obtain ⟨t, ht, hfault⟩ := exec_fetched_of_assigned hop s.routineStart
  rw [routineStart_of_assigned hop] at hfault
  exact ⟨t, ht, (step_of_fetches s hs).trans (execute_next s t ht (hfault.trans hs.sound))⟩

end

/-- Settles O20, by the step at an assigned opcode. -/
theorem stepRunsTheFetchedInstruction : Obligations.StepRunsTheFetchedInstruction := by
  intro s i rest next hs hop hdecode
  obtain rfl := fetched_of_decode hdecode
  obtain ⟨t, ht, hstep⟩ := step_of_assigned hs hop
  rw [routineStart_of_assigned hop, pcNext_eq] at ht
  exact ⟨wf_decodeFetched _ _ _, t, ht, hstep.trans (congrArg _ (delayedEnable_eq s t))⟩

end Sys2Proof.Machine
end

section
/-! PROOFS of the family of 8-bit loads (40_loads_8bit.md). A row loads a register, stores a byte, or does either at
HL and then moves HL. Each of the four answers is said once (`loadsReg_done`, `storesByte_storeMem`,
`loadsThenMovesHl_loadHlThen`, `storesThenMovesHl_storeHlThen`), from the frames of the updates it is made of. -/

namespace Sys2Proof.Machine

open Sys2Proof.Claims

/-! ### Frames of the updates -/

/-- One update after the other leaves the registers that neither changes. -/
theorem RegsKept.trans {first second : List Reg8} {s t u : State} (h : RegsKept first s t)
    (g : RegsKept second t u) : RegsKept (first ++ second) s u := by
  intro r hr
  rw [List.mem_append, not_or] at hr
  exact (g r hr.2).trans (h r hr.1)

theorem regsKept_setReg (s : State) (r : Reg8) (v : Byte) : RegsKept [r] s (s.setReg r v) :=
  fun q hq => setReg_reg_ne s r q v (List.ne_of_not_mem_cons hq)

theorem regsKept_setHl (s : State) (v : Word) : RegsKept [.h, .l] s (s.setHl v) := by
  intro r hr
  cases r with
  | h | l => simp at hr
  | a | b | c | d | e => rfl

theorem regsKept_write (s : State) (addr : Word) (v : Byte) : RegsKept [] s (s.write addr v) :=
  fun r _ => write_reg s addr v r

/-- What a store did to memory is still so after an update that leaves memory alone. -/
theorem Stored.of_memoryKept {addr : Word} {v : Byte} {s t u : State} (h : Stored addr v s t)
    (g : MemoryKept t u) : Stored addr v s u := by
  obtain ⟨hstored, hignored, hother⟩ := h
  exact ⟨fun hw => (g addr).trans (hstored hw), fun hw a => (g a).trans (hignored hw a),
    fun a ha => (g a).trans (hother a ha)⟩

/-! ### The bytes of a row -/

theorem loByte_eq_byte (w : Word) : loByte w = byte (w.toNat % 256) :=
  BitVec.eq_of_toNat_eq (by rw [loByte_toNat, byte, BitVec.toNat_ofNat, Nat.mod_mod])

theorem hiByte_eq_byte (w : Word) : hiByte w = byte (w.toNat / 256) := by
  have hlt : w.toNat / 256 < 2 ^ 8 := Nat.div_lt_of_lt_mul w.isLt
  exact BitVec.eq_of_toNat_eq (by rw [hiByte_toNat, byte, BitVec.toNat_ofNat, Nat.mod_eq_of_lt hlt])

/-- A 16-bit immediate behind its opcode, low byte first (30_encoding.md R102). -/
theorem immediate16_eq_bytes (op : Byte) (nn : Word) :
    [op, loByte nn, hiByte nn] = [op, byte (nn.toNat % 256), byte (nn.toNat / 256)] := by
  rw [loByte_eq_byte, hiByte_eq_byte]

/-- `01 yyy zzz` (40_loads_8bit.md R150). -/
theorem encode_rowLdRR (dst src : Reg8) : encode (rowLdRR dst src) = [byte (0x40 + 8 * code dst + code src)] := by
  cases dst <;> cases src <;> rfl

/-- `00 yyy 110`, then the immediate (40_loads_8bit.md R151). -/
theorem encode_rowLdRN (dst : Reg8) (n : Byte) : encode (rowLdRN dst n) = [byte (0x06 + 8 * code dst), n] := by
  cases dst <;> rfl

/-- `01 yyy 110` (40_loads_8bit.md R152). -/
theorem encode_rowLdRHl (dst : Reg8) : encode (rowLdRHl dst) = [byte (0x46 + 8 * code dst)] := by
  cases dst <;> rfl

/-- `01 110 zzz` (40_loads_8bit.md R153). -/
theorem encode_rowLdHlR (src : Reg8) : encode (rowLdHlR src) = [byte (0x70 + code src)] := by
  cases src <;> rfl

/-! ### Loads of a register -/

/-- The answer is a next state in which `dst` holds `v`, at the cost, and nothing else has changed. -/
def LoadsReg (dst : Reg8) (v : Byte) (cost : Nat) (s : State) (r : Result) : Prop :=
  ∃ t, r = .next t ∧
    t.reg dst = v ∧
    RegsKept [dst] s t ∧ t.f = s.f ∧ t.sp = s.sp ∧ t.pc = s.pc ∧ ControlKept s t ∧ MemoryKept s t ∧
    t.cycles = s.cycles + cost

theorem loadsReg_done (dst : Reg8) (v : Byte) (cost : Nat) (s : State) :
    LoadsReg dst v cost s (done cost (s.setReg dst v)) :=
  ⟨(s.setReg dst v).charge cost, rfl, setReg_reg s dst v, regsKept_setReg s dst v, setReg_f s dst v,
    setReg_sp s dst v, setReg_pc s dst v, controlKept_setReg s dst v, setReg_read s dst v,
    congrArg (· + cost) (setReg_cycles s dst v)⟩

theorem loadsReg_loadMem (cost : Nat) (dst : Reg8) (addr : Word) (s : State) :
    LoadsReg dst (s.read addr) cost s (loadMem cost dst addr s) :=
  loadsReg_done dst (s.read addr) cost s

/-- Settles O30: each of the 49 rows runs `loadReg`. -/
theorem ldRegisterFromRegister : Obligations.LdRegisterFromRegister := by
  intro dst src s
  rw [exec_rowLdRR]
  exact ⟨encode_rowLdRR dst src, loadsReg_done dst (s.reg src) 4 s⟩

/-- Settles O31: each of the seven rows runs `loadImm`. -/
theorem ldRegisterImmediate : Obligations.LdRegisterImmediate := by
  intro dst n s
  rw [exec_rowLdRN]
  exact ⟨encode_rowLdRN dst n, loadsReg_done dst n 8 s⟩

/-- Settles O32: each form runs `loadMem` at its own address, read before the register is written. -/
theorem loadsFromMemory : Obligations.LoadsFromMemory := by
  intro s r n nn form hform
  simp only [loadForms, List.mem_cons, List.not_mem_nil, or_false] at hform
  rcases hform with rfl | rfl | rfl | rfl | rfl | rfl
  · rw [exec_rowLdRHl]
    exact ⟨encode_rowLdRHl r, loadsReg_loadMem 8 r s.hl s⟩
  · exact ⟨rfl, loadsReg_loadMem 8 .a s.bc s⟩
  · exact ⟨rfl, loadsReg_loadMem 8 .a s.de s⟩
  · exact ⟨immediate16_eq_bytes 0xFA nn, loadsReg_loadMem 16 .a nn s⟩
  · exact ⟨rfl, loadsReg_loadMem 12 .a (highPage n) s⟩
  · exact ⟨rfl, loadsReg_loadMem 8 .a (highPage s.c) s⟩

/-! ### Stores of a byte -/

/-- The answer is a next state with `v` stored at `addr`, at the cost, and nothing else changed. -/
def StoresByte (addr : Word) (v : Byte) (cost : Nat) (s : State) (r : Result) : Prop :=
  ∃ t, r = .next t ∧
    Stored addr v s t ∧
    RegsKept [] s t ∧ t.f = s.f ∧ t.sp = s.sp ∧ t.pc = s.pc ∧ ControlKept s t ∧
    t.cycles = s.cycles + cost

theorem storesByte_storeMem (cost : Nat) (addr : Word) (v : Byte) (s : State) :
    StoresByte addr v cost s (storeMem cost addr v s) :=
  ⟨(s.write addr v).charge cost, rfl, (stored_write s addr v).of_memoryKept (charge_read _ cost),
    regsKept_write s addr v, write_f s addr v, write_sp s addr v, write_pc s addr v, controlKept_write s addr v,
    congrArg (· + cost) (write_cycles s addr v)⟩

/-- Settles O33: each form runs `storeMem` at its own address. -/
theorem storesToMemory : Obligations.StoresToMemory := by
  intro s r n nn form hform
  simp only [storeForms, List.mem_cons, List.not_mem_nil, or_false] at hform
  rcases hform with rfl | rfl | rfl | rfl | rfl | rfl | rfl
  · rw [exec_rowLdHlR]
    exact ⟨encode_rowLdHlR r, storesByte_storeMem 8 s.hl (s.reg r) s⟩
  · exact ⟨rfl, storesByte_storeMem 12 s.hl n s⟩
  · exact ⟨rfl, storesByte_storeMem 8 s.bc s.a s⟩
  · exact ⟨rfl, storesByte_storeMem 8 s.de s.a s⟩
  · exact ⟨immediate16_eq_bytes 0xEA nn, storesByte_storeMem 16 nn s.a s⟩
  · exact ⟨rfl, storesByte_storeMem 12 (highPage n) s.a s⟩
  · exact ⟨rfl, storesByte_storeMem 8 (highPage s.c) s.a s⟩

/-! ### Accesses at HL that move HL -/

/-- One less modulo 65536, in numbers. -/
theorem sub_one_toNat (w : Word) : (w - 1).toNat = (w.toNat + 65535) % 65536 := by
  rw [BitVec.toNat_sub, Nat.add_comm]
  rfl

/-- The answer is a next state in which A holds the byte at the old HL and HL the value `next`, at 8 cycles, and
nothing else has changed. -/
def LoadsThenMovesHl (next : Nat) (s : State) (r : Result) : Prop :=
  ∃ t, r = .next t ∧
    t.a = s.read s.hl ∧ t.hl.toNat = next ∧
    RegsKept [.a, .h, .l] s t ∧ t.f = s.f ∧ t.sp = s.sp ∧ t.pc = s.pc ∧ ControlKept s t ∧ MemoryKept s t ∧
    t.cycles = s.cycles + 8

theorem loadsThenMovesHl_loadHlThen (next : Word) (s : State) :
    LoadsThenMovesHl next.toNat s (loadHlThen next s) :=
  ⟨((s.setReg .a s.readHl).setHl next).charge 8, rfl, rfl,
    congrArg BitVec.toNat (setHl_hl (s.setReg .a s.readHl) next),
    (regsKept_setReg s .a s.readHl).trans (regsKept_setHl (s.setReg .a s.readHl) next), rfl, rfl, rfl, .refl s,
    fun _ => rfl, rfl⟩

/-- The answer is a next state with A stored at the old HL and HL the value `next`, at 8 cycles, and nothing else
changed. -/
def StoresThenMovesHl (next : Nat) (s : State) (r : Result) : Prop :=
  ∃ t, r = .next t ∧
    Stored s.hl s.a s t ∧ t.hl.toNat = next ∧
    RegsKept [.h, .l] s t ∧ t.f = s.f ∧ t.sp = s.sp ∧ t.pc = s.pc ∧ ControlKept s t ∧
    t.cycles = s.cycles + 8

theorem storesThenMovesHl_storeHlThen (next : Word) (s : State) :
    StoresThenMovesHl next.toNat s (storeHlThen next s) :=
  ⟨((s.writeHl s.a).setHl next).charge 8, rfl,
    (stored_write s s.hl s.a).of_memoryKept (setHl_read (s.writeHl s.a) next),
    congrArg BitVec.toNat (setHl_hl (s.writeHl s.a) next),
    (regsKept_write s s.hl s.a).trans (regsKept_setHl (s.writeHl s.a) next),
    write_f s s.hl s.a, write_sp s s.hl s.a, write_pc s s.hl s.a, controlKept_write s s.hl s.a,
    congrArg (· + 8) (write_cycles s s.hl s.a)⟩

/-- Settles O34: the four rows run `loadHlThen` and `storeHlThen` with HL plus or minus one. -/
theorem postIndexedLoadsAndStores : Obligations.PostIndexedLoadsAndStores := by
  intro s
  have hinc : (s.hl + 1).toNat = (s.hl.toNat + 1) % 65536 := BitVec.toNat_add s.hl 1
  have hdec : (s.hl - 1).toNat = (s.hl.toNat + 65535) % 65536 := sub_one_toNat s.hl
  simp only [← hinc, ← hdec, List.forall_mem_cons, List.not_mem_nil, false_imp_iff, implies_true, and_true]
  refine ⟨⟨⟨rfl, ?_⟩, rfl, ?_⟩, ⟨rfl, ?_⟩, rfl, ?_⟩
  · exact loadsThenMovesHl_loadHlThen (s.hl + 1) s
  · exact loadsThenMovesHl_loadHlThen (s.hl - 1) s
  · exact storesThenMovesHl_storeHlThen (s.hl + 1) s
  · exact storesThenMovesHl_storeHlThen (s.hl - 1) s

end Sys2Proof.Machine
end

section
/-! PROOFS of the family of 16-bit loads (41_loads_16bit.md). A row loads a pair of registers, stores a word, pushes or
pops a pair, or adds a signed offset to SP. What each update leaves is said first; the answers of the rows are
assembled from it. -/

namespace Sys2Proof.Machine

open Sys2Proof.Claims

/-! ### Frames of the updates -/

theorem regsKept_setSp (s : State) (v : Word) : RegsKept [] s (s.setSp v) :=
  fun r _ => setSp_reg s v r

/-- POP AF's pair write changes A alone of the registers other than F. -/
theorem regsKept_setAf (s : State) (v : Word) : RegsKept [.a] s (s.setAf v) :=
  fun r hr => (setF_reg _ (loByte v) r).trans (regsKept_setReg s .a (hiByte v) r hr)

theorem regsKept_write16 (s : State) (addr v : Word) : RegsKept [] s (s.write16 addr v) :=
  (regsKept_write s addr (loByte v)).trans (regsKept_write _ (addr + 1) (hiByte v))

theorem regsKept_push16 (s : State) (v : Word) : RegsKept [] s (s.push16 v) := by
  rw [push16_eq]
  exact ((regsKept_write s _ _).trans (regsKept_write _ _ _)).trans (regsKept_setSp _ _)

@[simp] theorem push16_f (s : State) (v : Word) : (s.push16 v).f = s.f := by simp [push16_eq]
@[simp] theorem push16_sp (s : State) (v : Word) : (s.push16 v).sp = s.sp - 2 := by simp [push16_eq]
@[simp] theorem push16_pc (s : State) (v : Word) : (s.push16 v).pc = s.pc := by simp [push16_eq]

@[simp] theorem write16_f (s : State) (addr v : Word) : (s.write16 addr v).f = s.f := by simp [State.write16]
@[simp] theorem write16_sp (s : State) (addr v : Word) : (s.write16 addr v).sp = s.sp := by simp [State.write16]
@[simp] theorem write16_pc (s : State) (addr v : Word) : (s.write16 addr v).pc = s.pc := by simp [State.write16]
@[simp] theorem write16_cycles (s : State) (addr v : Word) : (s.write16 addr v).cycles = s.cycles := by
  simp [State.write16]

/-- The word popped from the stack, byte by byte (20_memory.md R71). -/
@[simp] theorem hiByte_stackTop (s : State) : hiByte s.stackTop = s.read (s.sp + 1) := hiByte_pack _ _
@[simp] theorem loByte_stackTop (s : State) : loByte s.stackTop = s.read s.sp := loByte_pack _ _

/-- A packed pair as the spec computes it (00_scope.md R7). -/
theorem pack_eq_ofNat (high low : Byte) : pack high low = BitVec.ofNat 16 (high.toNat * 256 + low.toNat) := by
  rw [← pack_toNat, BitVec.ofNat_toNat, BitVec.setWidth_eq]

/-! ### Writes of a pair -/

/-- From `s` to `t` the two registers of a pair are written with the bytes of `v`, and nothing else has changed. -/
structure WritesPair (high low : Reg8) (v : Word) (s t : State) : Prop where
  highByte : t.reg high = hiByte v
  lowByte : t.reg low = loByte v
  regs : RegsKept [high, low] s t
  f : t.f = s.f
  sp : t.sp = s.sp
  pc : t.pc = s.pc
  control : ControlKept s t
  memory : MemoryKept s t
  cycles : t.cycles = s.cycles

theorem writesPair_setBc (s : State) (v : Word) : WritesPair .b .c v s (s.setBc v) where
  highByte := rfl
  lowByte := rfl
  regs := by
    intro r hr
    cases r with
    | b | c => simp at hr
    | a | d | e | h | l => rfl
  f := rfl
  sp := rfl
  pc := rfl
  control := .refl s
  memory := setBc_read s v
  cycles := rfl

theorem writesPair_setDe (s : State) (v : Word) : WritesPair .d .e v s (s.setDe v) where
  highByte := rfl
  lowByte := rfl
  regs := by
    intro r hr
    cases r with
    | d | e => simp at hr
    | a | b | c | h | l => rfl
  f := rfl
  sp := rfl
  pc := rfl
  control := .refl s
  memory := setDe_read s v
  cycles := rfl

theorem writesPair_setHl (s : State) (v : Word) : WritesPair .h .l v s (s.setHl v) where
  highByte := rfl
  lowByte := rfl
  regs := regsKept_setHl s v
  f := rfl
  sp := rfl
  pc := rfl
  control := .refl s
  memory := setHl_read s v
  cycles := rfl

/-! ### Loads and the store of a word -/

/-- The answer is a next state in which the pair holds the word `nn`, at 12 cycles, and nothing else has changed. -/
def LoadsPair (high low : Reg8) (nn : Word) (s : State) (r : Result) : Prop :=
  ∃ t, r = .next t ∧
    (t.reg high).toNat = nn.toNat / 256 ∧ (t.reg low).toNat = nn.toNat % 256 ∧
    RegsKept [high, low] s t ∧ t.f = s.f ∧ t.sp = s.sp ∧ t.pc = s.pc ∧ ControlKept s t ∧
    MemoryKept s t ∧ t.cycles = s.cycles + 12

theorem WritesPair.loadsPair {high low : Reg8} {nn : Word} {s t : State} (h : WritesPair high low nn s t) :
    LoadsPair high low nn s (done 12 t) :=
  ⟨t.charge 12, rfl, by rw [charge_reg, h.highByte, hiByte_toNat], by rw [charge_reg, h.lowByte, loByte_toNat],
    fun r hr => (charge_reg t 12 r).trans (h.regs r hr), h.f, h.sp, h.pc, h.control, h.memory,
    congrArg (· + 12) h.cycles⟩

/-- What the stores of a word did to memory is still so after an update that leaves memory alone. -/
theorem StoredWord.of_memoryKept {low v : Word} {s t u : State} (h : StoredWord low v s t)
    (g : MemoryKept t u) : StoredWord low v s u := by
  simpa only [StoredWord, g _] using h

/-- The answer is a next state with `v` stored at `addr`, low byte first, at 20 cycles, and nothing else changed. -/
def StoresWord (addr v : Word) (s : State) (r : Result) : Prop :=
  ∃ t, r = .next t ∧
    StoredWord addr v s t ∧
    RegsKept [] s t ∧ t.f = s.f ∧ t.sp = s.sp ∧ t.pc = s.pc ∧ ControlKept s t ∧ t.cycles = s.cycles + 20

theorem storesWord_write16 (s : State) (addr v : Word) : StoresWord addr v s (done 20 (s.write16 addr v)) :=
  ⟨(s.write16 addr v).charge 20, rfl, (storedWord_write16 s addr v).of_memoryKept (charge_read _ 20),
    regsKept_write16 s addr v, write16_f s addr v, write16_sp s addr v, write16_pc s addr v,
    controlKept_write16 s addr v, congrArg (· + 20) (write16_cycles s addr v)⟩

/-- Settles O35: the rows of a pair write it, SP is set to the immediate or to HL, and `write16` stores it. -/
theorem sixteenBitLoads : Obligations.SixteenBitLoads := by
  intro s nn
  refine ⟨fun row hrow => ?_, ⟨immediate16_eq_bytes 0x31 nn, rfl⟩, ⟨rfl, rfl⟩, immediate16_eq_bytes 0x08 nn,
    storesWord_write16 s nn s.sp⟩
  simp only [List.mem_cons, List.not_mem_nil, or_false] at hrow
  rcases hrow with rfl | rfl | rfl
  · exact ⟨immediate16_eq_bytes 0x01 nn, (writesPair_setBc s nn).loadsPair⟩
  · exact ⟨immediate16_eq_bytes 0x11 nn, (writesPair_setDe s nn).loadsPair⟩
  · exact ⟨immediate16_eq_bytes 0x21 nn, (writesPair_setHl s nn).loadsPair⟩

/-! ### Pushes -/

/-- `11 pp0 101` (41_loads_16bit.md R203). -/
theorem encode_rowPush (p : StkPair) : encode (rowPush p) = [byte (0xC5 + 16 * stkCode p)] := by
  cases p <;> rfl

/-- The answer is a next state with the two bytes pushed, the high one first, at 16 cycles, and nothing else
changed. -/
def PushesBytes (high low : Byte) (s : State) (r : Result) : Prop :=
  ∃ t, r = .next t ∧
    StoredWord (s.sp - 2) (BitVec.ofNat 16 (high.toNat * 256 + low.toNat)) s t ∧
    t.sp = s.sp - 2 ∧
    RegsKept [] s t ∧ t.f = s.f ∧ t.pc = s.pc ∧ ControlKept s t ∧ t.cycles = s.cycles + 16

theorem pushesBytes_push16 (s : State) (high low : Byte) :
    PushesBytes high low s (done 16 (s.push16 (pack high low))) := by
  rw [PushesBytes, ← pack_eq_ofNat]
  exact ⟨(s.push16 (pack high low)).charge 16, rfl, (storedWord_push16 s _).of_memoryKept (charge_read _ 16),
    push16_sp s _, regsKept_push16 s _, push16_f s _, push16_pc s _, controlKept_push16 s _,
    congrArg (· + 16) (push16_cycles s _)⟩

/-- Settles O36: each of the four rows pushes its pair, the packing of its two registers. -/
theorem pushStoresThePair : Obligations.PushStoresThePair := by
  intro s row hrow
  simp only [List.mem_cons, List.not_mem_nil, or_false] at hrow
  rcases hrow with rfl | rfl | rfl | rfl
  · exact ⟨encode_rowPush .bc, pushesBytes_push16 s s.b s.c⟩
  · exact ⟨encode_rowPush .de, pushesBytes_push16 s s.d s.e⟩
  · exact ⟨encode_rowPush .hl, pushesBytes_push16 s s.h s.l⟩
  · exact ⟨encode_rowPush .af, pushesBytes_push16 s s.a s.f⟩

/-! ### Pops -/

/-- `11 pp0 001` (41_loads_16bit.md R204). -/
theorem encode_rowPop (p : StkPair) : encode (rowPop p) = [byte (0xC1 + 16 * stkCode p)] := by
  cases p <;> rfl

/-- SP after the two increments of a pop. -/
theorem dropStack_sp (s : State) : s.dropStack.sp = s.sp + 2 := add_one_add_one s.sp

/-- The answer is a next state in which the pair holds the two bytes at SP, low byte first, and SP is past them, at
12 cycles, and nothing else has changed. -/
def PopsPair (high low : Reg8) (s : State) (r : Result) : Prop :=
  ∃ t, r = .next t ∧
    t.reg high = s.read (s.sp + 1) ∧ t.reg low = s.read s.sp ∧ t.sp = s.sp + 2 ∧
    RegsKept [high, low] s t ∧ t.f = s.f ∧ t.pc = s.pc ∧ ControlKept s t ∧ MemoryKept s t ∧
    t.cycles = s.cycles + 12

theorem WritesPair.popsPair {high low : Reg8} {s t : State} (h : WritesPair high low s.stackTop s.dropStack t) :
    PopsPair high low s (done 12 t) :=
  ⟨t.charge 12, rfl, by rw [charge_reg, h.highByte, hiByte_stackTop], by rw [charge_reg, h.lowByte, loByte_stackTop],
    h.sp.trans (dropStack_sp s),
    fun r hr => (charge_reg t 12 r).trans ((regsKept_setSp s _).trans h.regs r hr),
    h.f, h.pc, h.control, h.memory, congrArg (· + 12) h.cycles⟩

/-- Settles O37: three rows write a pair with the popped word, and POP AF writes A and the masked F with it. -/
theorem popLoadsThePair : Obligations.PopLoadsThePair := by
  intro s
  refine ⟨fun row hrow => ?_, rfl, (s.dropStack.setAf s.stackTop).charge 12, rfl, hiByte_stackTop s,
    congrArg (· &&& 0xF0) (loByte_stackTop s), dropStack_sp s,
    (regsKept_setSp s _).trans (regsKept_setAf s.dropStack s.stackTop), rfl, .refl s, fun _ => rfl, rfl⟩
  simp only [List.mem_cons, List.not_mem_nil, or_false] at hrow
  rcases hrow with rfl | rfl | rfl
  · exact ⟨encode_rowPop .bc, (writesPair_setBc s.dropStack s.stackTop).popsPair⟩
  · exact ⟨encode_rowPop .de, (writesPair_setDe s.dropStack s.stackTop).popsPair⟩
  · exact ⟨encode_rowPop .hl, (writesPair_setHl s.dropStack s.stackTop).popsPair⟩

/-! ### SP plus a signed offset -/

/-- The flags of a signed offset added to SP: Z and N cleared, H and C of the low-byte addition
(43_alu_16bit.md R300). -/
def State.setOffsetFlags (t : State) (sp : Word) (e : Byte) : State :=
  t.setFlags false false (addSpE8 sp e).2.1 (addSpE8 sp e).2.2

theorem addSpOffset_eq (e : Byte) (s : State) :
    addSpOffset e s = done 16 ((s.setSp (addSpE8 s.sp e).1).setOffsetFlags s.sp e) := rfl

theorem loadHlSp_eq (e : Byte) (s : State) :
    loadHlSp e s = done 12 ((s.setHl (addSpE8 s.sp e).1).setOffsetFlags s.sp e) := rfl

theorem flagsAre_setOffsetFlags (t : State) (sp : Word) (e : Byte) :
    FlagsAre (t.setOffsetFlags sp e) false false (decide (sp.toNat % 16 + e.toNat % 16 > 15))
      (decide (sp.toNat % 256 + e.toNat > 255)) := flagsAre_setFlags t false false _ _

/-- A flag write keeps the registers that were kept before it. -/
theorem RegsKept.setOffsetFlags {changed : List Reg8} {s t : State} (h : RegsKept changed s t) (sp : Word) (e : Byte) :
    RegsKept changed s (t.setOffsetFlags sp e) :=
  fun r hr => (setFlags_reg t _ _ _ _ r).trans (h r hr)

/-- The sum is the signed one, modulo 65536 (43_alu_16bit.md R300). -/
theorem addSpE8_sum_toNat (sp : Word) (e : Byte) :
    ((addSpE8 sp e).1.toNat : Int) = ((sp.toNat : Int) + e.toInt) % 65536 := add_sext16_toNat sp e

/-- Settles O38: each row writes the sum, to SP or to HL, and then the flags of the low-byte addition. -/
theorem spPlusSignedOffset : Obligations.SpPlusSignedOffset := by
  intro s e
  have hsum := addSpE8_sum_toNat s.sp e
  constructor
  · have hregs := (regsKept_setSp s (addSpE8 s.sp e).1).setOffsetFlags s.sp e
    have hflags := flagsAre_setOffsetFlags (s.setSp (addSpE8 s.sp e).1) s.sp e
    exact ⟨rfl, _, addSpOffset_eq e s, hsum, hflags, hregs, rfl, .refl s, fun _ => rfl, rfl⟩
  · have hregs := (regsKept_setHl s (addSpE8 s.sp e).1).setOffsetFlags s.sp e
    have hflags := flagsAre_setOffsetFlags (s.setHl (addSpE8 s.sp e).1) s.sp e
    rw [← setHl_hl s (addSpE8 s.sp e).1] at hsum
    exact ⟨rfl, _, loadHlSp_eq e s, hsum, hflags, hregs, rfl, rfl, .refl s, fun _ => rfl, rfl⟩

end Sys2Proof.Machine
end

section
/-! PROOFS of the family of 8-bit arithmetic and logic (42_alu_8bit.md). A row writes a register and the flags, the
flags alone, or the byte at HL and the flags. What each of the three answers leaves is said once (`setsRegFlags_done`,
`setsFlags_done`, `storesAndSetsFlags_done`); what the functions of R250 to R257 compute is said in numbers
(`AluResult.Is`), and DAA's adjustment by the two tests of R288. -/

namespace Sys2Proof.Machine

open Sys2Proof.Claims

/-! ### The bytes of a row -/

/-- `10 ooo zzz` (42_alu_8bit.md, operand forms). -/
theorem encode_rowAluR (op : AluOp) (r : Reg8) : encode (rowAluR op r) = [byte (0x80 + 8 * aluCode op + code r)] := by
  cases op <;> cases r <;> rfl

/-- `10 ooo 110` (42_alu_8bit.md, operand forms). -/
theorem encode_rowAluHl (op : AluOp) : encode (rowAluHl op) = [byte (0x80 + 8 * aluCode op + 6)] := by
  cases op <;> rfl

/-- `11 ooo 110`, then the immediate (42_alu_8bit.md, operand forms). -/
theorem encode_rowAluN (op : AluOp) (n : Byte) : encode (rowAluN op n) = [byte (0xC6 + 8 * aluCode op), n] := by
  cases op <;> rfl

/-- `00 yyy 100` (42_alu_8bit.md R284). -/
theorem encode_rowIncR (r : Reg8) : encode (rowIncR r) = [byte (0x04 + 8 * code r)] := by
  cases r <;> rfl

/-- `00 yyy 101` (42_alu_8bit.md R286). -/
theorem encode_rowDecR (r : Reg8) : encode (rowDecR r) = [byte (0x05 + 8 * code r)] := by
  cases r <;> rfl

/-! ### The answers of the rows -/

theorem regsKept_setFlags (s : State) (z n h c : Bool) : RegsKept [] s (s.setFlags z n h c) :=
  fun r _ => setFlags_reg s z n h c r

/-- The answer is a next state in which `r` holds `v` and F the given flags, at the cost, and nothing else has
changed. -/
def SetsRegFlags (r : Reg8) (v : Nat) (z n h c : Bool) (cost : Nat) (s : State) (result : Result) : Prop :=
  ∃ t, result = .next t ∧
    (t.reg r).toNat = v ∧ FlagsAre t z n h c ∧
    RegsKept [r] s t ∧ t.sp = s.sp ∧ t.pc = s.pc ∧ ControlKept s t ∧ MemoryKept s t ∧ t.cycles = s.cycles + cost

theorem setsRegFlags_done (r : Reg8) (v : Byte) (z n h c : Bool) (cost : Nat) (s : State) :
    SetsRegFlags r v.toNat z n h c cost s (done cost ((s.setReg r v).setFlags z n h c)) :=
  ⟨((s.setReg r v).setFlags z n h c).charge cost, rfl,
    congrArg BitVec.toNat ((setFlags_reg _ z n h c r).trans (setReg_reg s r v)),
    flagsAre_setFlags (s.setReg r v) z n h c, (regsKept_setReg s r v).trans (regsKept_setFlags _ z n h c),
    setReg_sp s r v, setReg_pc s r v, controlKept_setReg s r v, setReg_read s r v,
    congrArg (· + cost) (setReg_cycles s r v)⟩

/-- The answer is a next state in which F holds the given flags, at the cost, and nothing else has changed. -/
def SetsFlags (z n h c : Bool) (cost : Nat) (s : State) (result : Result) : Prop :=
  ∃ t, result = .next t ∧
    FlagsAre t z n h c ∧
    RegsKept [] s t ∧ t.sp = s.sp ∧ t.pc = s.pc ∧ ControlKept s t ∧ MemoryKept s t ∧ t.cycles = s.cycles + cost

theorem setsFlags_done (z n h c : Bool) (cost : Nat) (s : State) :
    SetsFlags z n h c cost s (done cost (s.setFlags z n h c)) :=
  ⟨(s.setFlags z n h c).charge cost, rfl, flagsAre_setFlags s z n h c, regsKept_setFlags s z n h c, rfl, rfl, .refl s,
    setFlags_read s z n h c, rfl⟩

/-- The answer is a next state with `v` stored at HL and the given flags in F, at 12 cycles, and nothing else
changed. -/
def StoresAndSetsFlags (v : Byte) (z n h c : Bool) (s : State) (result : Result) : Prop :=
  ∃ t, result = .next t ∧
    Stored s.hl v s t ∧ FlagsAre t z n h c ∧
    RegsKept [] s t ∧ t.sp = s.sp ∧ t.pc = s.pc ∧ ControlKept s t ∧ t.cycles = s.cycles + 12

theorem storesAndSetsFlags_done (v : Byte) (z n h c : Bool) (s : State) :
    StoresAndSetsFlags v z n h c s (done 12 ((s.writeHl v).setFlags z n h c)) :=
  ⟨((s.writeHl v).setFlags z n h c).charge 12, rfl,
    (stored_write s s.hl v).of_memoryKept (setFlags_read (s.writeHl v) z n h c),
    flagsAre_setFlags (s.writeHl v) z n h c, (regsKept_write s s.hl v).trans (regsKept_setFlags _ z n h c),
    write_sp s s.hl v, write_pc s s.hl v, controlKept_write s s.hl v, congrArg (· + 12) (write_cycles s s.hl v)⟩

/-! ### The functions of R250 to R257 in numbers -/

/-- A computed result has the value `r` and the given flags. -/
structure AluResult.Is (out : AluResult) (r : Nat) (z n h c : Bool) : Prop where
  value : out.r.toNat = r
  zero : out.z = z
  negative : out.n = n
  halfCarry : out.h = h
  carry : out.c = c

/-- The byte of a computed result is the byte of its value. -/
theorem AluResult.Is.r_eq_byte {out : AluResult} {r : Nat} {z n h c : Bool} (is : out.Is r z n h c) :
    out.r = byte r := by
  rw [byte, ← is.value, BitVec.ofNat_toNat, BitVec.setWidth_eq]

/-- Z is the test of the value. -/
theorem beq_zero_of_toNat {v : Byte} {r : Nat} (h : v.toNat = r) : (v == 0) = decide (r = 0) := by
  rw [byte_beq_zero, h]

theorem add8_is (a b : Byte) :
    (add8 a b).Is ((a.toNat + b.toNat) % 256) (decide ((a.toNat + b.toNat) % 256 = 0)) false
      (decide (a.toNat % 16 + b.toNat % 16 > 15)) (decide (a.toNat + b.toNat > 255)) :=
  ⟨add8_r a b, beq_zero_of_toNat (add8_r a b), rfl, rfl, rfl⟩

theorem adc8_is (a b : Byte) (cin : Bool) :
    (adc8 a b cin).Is ((a.toNat + b.toNat + cin.toNat) % 256) (decide ((a.toNat + b.toNat + cin.toNat) % 256 = 0)) false
      (decide (a.toNat % 16 + b.toNat % 16 + cin.toNat > 15)) (decide (a.toNat + b.toNat + cin.toNat > 255)) := by
  refine ⟨adc8_r a b cin, beq_zero_of_toNat (adc8_r a b cin), rfl, ?_, ?_⟩ <;> rw [← carryNat_eq] <;> rfl

theorem sub8_is (a b : Byte) :
    (sub8 a b).Is ((a.toNat + 256 - b.toNat) % 256) (decide ((a.toNat + 256 - b.toNat) % 256 = 0)) true
      (decide (a.toNat % 16 < b.toNat % 16)) (decide (a.toNat < b.toNat)) :=
  ⟨sub8_r a b, beq_zero_of_toNat (sub8_r a b), rfl, rfl, rfl⟩

theorem sbc8_is (a b : Byte) (cin : Bool) :
    (sbc8 a b cin).Is ((a.toNat + 512 - b.toNat - cin.toNat) % 256)
      (decide ((a.toNat + 512 - b.toNat - cin.toNat) % 256 = 0)) true
      (decide (a.toNat % 16 < b.toNat % 16 + cin.toNat)) (decide (a.toNat < b.toNat + cin.toNat)) := by
  refine ⟨sbc8_r a b cin, beq_zero_of_toNat (sbc8_r a b cin), rfl, ?_, ?_⟩ <;> rw [← carryNat_eq] <;> rfl

theorem and8_is (a b : Byte) :
    (and8 a b).Is (a &&& b).toNat (decide ((a &&& b).toNat = 0)) false true false :=
  ⟨rfl, byte_beq_zero (a &&& b), rfl, rfl, rfl⟩

theorem xor8_is (a b : Byte) :
    (xor8 a b).Is (a ^^^ b).toNat (decide ((a ^^^ b).toNat = 0)) false false false :=
  ⟨rfl, byte_beq_zero (a ^^^ b), rfl, rfl, rfl⟩

theorem or8_is (a b : Byte) :
    (or8 a b).Is (a ||| b).toNat (decide ((a ||| b).toNat = 0)) false false false :=
  ⟨rfl, byte_beq_zero (a ||| b), rfl, rfl, rfl⟩

/-- A difference is zero exactly when its operands are equal (42_alu_8bit.md R281). -/
theorem sub8_z (a b : Byte) : (sub8 a b).z = decide (a = b) := by
  show (a - b == 0) = _
  rw [Bool.eq_iff_iff, beq_iff_eq, decide_eq_true_iff]
  exact sub_eq_zero

/-- A byte incremented (42_alu_8bit.md R257): the result is zero after 0xFF, and bit 3 carries after 0xF. -/
theorem inc8_is (a : Byte) (c : Bool) :
    (inc8 a c).Is ((a.toNat + 1) % 256) (decide (a.toNat = 255)) false (decide (a.toNat % 16 = 15)) c := by
  have hlt := a.isLt
  refine ⟨inc8_r a c, (beq_zero_of_toNat (inc8_r a c)).trans ?_, rfl, ?_, rfl⟩
  · exact decide_eq_decide.2 (by omega)
  · exact decide_eq_decide.2 (by omega)

/-- A byte decremented (42_alu_8bit.md R257): the result is zero after 1. -/
theorem dec8_is (a : Byte) (c : Bool) :
    (dec8 a c).Is ((a.toNat + 255) % 256) (decide (a.toNat = 1)) true (decide (a.toNat % 16 = 0)) c := by
  have hlt := a.isLt
  refine ⟨dec8_r a c, (beq_zero_of_toNat (dec8_r a c)).trans ?_, rfl, rfl, rfl⟩
  exact decide_eq_decide.2 (by omega)

/-! ### A computed result written back -/

section
variable {out : AluResult} {v : Nat} {z n h c : Bool}

theorem AluResult.Is.setsRegFlags (is : out.Is v z n h c) (r : Reg8) (cost : Nat) (s : State) :
    SetsRegFlags r v z n h c cost s (done cost ((s.setReg r out.r).setFlags out.z out.n out.h out.c)) := by
  rw [← is.value, ← is.zero, ← is.negative, ← is.halfCarry, ← is.carry]
  exact setsRegFlags_done r out.r out.z out.n out.h out.c cost s

theorem AluResult.Is.storesAndSetsFlags (is : out.Is v z n h c) (s : State) :
    StoresAndSetsFlags (byte v) z n h c s (done 12 ((s.writeHl out.r).setFlags out.z out.n out.h out.c)) := by
  rw [← is.r_eq_byte, ← is.zero, ← is.negative, ← is.halfCarry, ← is.carry]
  exact storesAndSetsFlags_done out.r out.z out.n out.h out.c s

end

/-! ### The operations on A -/

/-- Every operation but CP writes its result to A. -/
theorem aluApply_of_ne_cp {op : AluOp} (hop : op ≠ .cp) (s : State) (b : Byte) :
    s.aluApply op b =
      (s.setReg .a (aluCompute op s.a b s.flagC).r).setFlags (aluCompute op s.a b s.flagC).z
        (aluCompute op s.a b s.flagC).n (aluCompute op s.a b s.flagC).h (aluCompute op s.a b s.flagC).c := by
  cases op with
  | cp => exact absurd rfl hop
  | add | adc | sub | sbc | and | xor | or => rfl

theorem aluApply_cp (s : State) (b : Byte) :
    s.aluApply .cp b = s.setFlags (sub8 s.a b).z (sub8 s.a b).n (sub8 s.a b).h (sub8 s.a b).c := rfl

section
variable {op : AluOp} {s : State} {r : Reg8} {imm : Byte} {form : AluForm}

theorem encode_of_mem_aluForms (hform : form ∈ aluForms op s r imm) : encode form.instr = form.bytes := by
  simp only [aluForms, List.mem_cons, List.not_mem_nil, or_false] at hform
  rcases hform with rfl | rfl | rfl
  · exact encode_rowAluR op r
  · exact encode_rowAluHl op
  · exact encode_rowAluN op imm

/-- The three forms run one operation, on their operand and at their cost. -/
theorem exec_of_mem_aluForms (hform : form ∈ aluForms op s r imm) :
    exec form.instr s = done form.cost (s.aluApply op form.operand) := by
  simp only [aluForms, List.mem_cons, List.not_mem_nil, or_false] at hform
  rcases hform with rfl | rfl | rfl
  · exact exec_rowAluR op r s
  · exact exec_rowAluHl op s
  · exact exec_rowAluN op imm s

/-- A form of an operation other than CP does what the operation computes. -/
theorem runsOnA_of_mem_aluForms {v : Nat} {n h c : Bool} (hform : form ∈ aluForms op s r imm) (hop : op ≠ .cp)
    (is : (aluCompute op s.a form.operand s.flagC).Is v (decide (v = 0)) n h c) : RunsOnA form s v n h c := by
  refine ⟨encode_of_mem_aluForms hform, ?_⟩
  rw [exec_of_mem_aluForms hform, aluApply_of_ne_cp hop]
  exact is.setsRegFlags .a form.cost s

end

/-- Settles O39: every form runs `add8` or `adc8` on its operand. -/
theorem addAndAddWithCarry : Obligations.AddAndAddWithCarry := by
  intro s r n
  constructor <;> intro form hform
  · exact runsOnA_of_mem_aluForms hform (by decide) (add8_is s.a form.operand)
  · exact runsOnA_of_mem_aluForms hform (by decide) (adc8_is s.a form.operand s.flagC)

/-- Settles O40: every form runs `sub8` or `sbc8` on its operand. -/
theorem subtractAndSubtractWithBorrow : Obligations.SubtractAndSubtractWithBorrow := by
  intro s r n
  constructor <;> intro form hform
  · exact runsOnA_of_mem_aluForms hform (by decide) (sub8_is s.a form.operand)
  · exact runsOnA_of_mem_aluForms hform (by decide) (sbc8_is s.a form.operand s.flagC)

/-- Settles O41: every form runs `and8`, `xor8` or `or8` on its operand. -/
theorem bitwiseLogic : Obligations.BitwiseLogic := by
  intro s r n
  refine ⟨?_, ?_, ?_⟩ <;> intro form hform
  · exact runsOnA_of_mem_aluForms hform (by decide) (and8_is s.a form.operand)
  · exact runsOnA_of_mem_aluForms hform (by decide) (xor8_is s.a form.operand)
  · exact runsOnA_of_mem_aluForms hform (by decide) (or8_is s.a form.operand)

/-- Settles O42: every form writes the flags of `sub8`, whose Z compares the operands, and no register. -/
theorem compareWritesOnlyFlags : Obligations.CompareWritesOnlyFlags := by
  intro s r n form hform
  refine ⟨encode_of_mem_aluForms hform, ?_⟩
  rw [exec_of_mem_aluForms hform, aluApply_cp, sub8_z]
  exact setsFlags_done (decide (s.a = form.operand)) true _ _ form.cost s

/-! ### Increments and decrements -/

/-- Settles O43: each row writes the register with `inc8` or `dec8` of it. -/
theorem incAndDecRegister : Obligations.IncAndDecRegister := by
  intro s r
  rw [exec_rowIncR, exec_rowDecR]
  exact ⟨⟨encode_rowIncR r, (inc8_is (s.reg r) s.flagC).setsRegFlags r 4 s⟩,
    encode_rowDecR r, (dec8_is (s.reg r) s.flagC).setsRegFlags r 4 s⟩

/-- Settles O44: each row stores `inc8` or `dec8` of the byte read at HL, and sets their flags. -/
theorem incAndDecMemory : Obligations.IncAndDecMemory := by
  intro s
  exact ⟨⟨rfl, (inc8_is (s.read s.hl) s.flagC).storesAndSetsFlags s⟩,
    rfl, (dec8_is (s.read s.hl) s.flagC).storesAndSetsFlags s⟩

/-! ### The decimal adjustment -/

/-- After a subtraction C and H each subtract their adjustment (42_alu_8bit.md R288). -/
theorem daaAdjust_true_toNat (a : Byte) (h c : Bool) :
    (daaAdjust a true h c).1.toNat = (a.toNat + 512 - 0x60 * c.toNat - 0x06 * h.toNat) % 256 := by
  have hlt := a.isLt
  cases c <;> cases h <;> simp [daaAdjust, BitVec.toNat_sub] <;> omega

/-- A byte with an adjustment added where a test holds. -/
theorem ite_add_toNat (p : Prop) [Decidable p] (v d : Byte) :
    (if p then v + d else v).toNat = (v.toNat + if p then d.toNat else 0) % 256 := by
  split
  · exact BitVec.toNat_add v d
  · exact (Nat.mod_eq_of_lt v.isLt).symm

/-- After an addition the two tests each add their adjustment (42_alu_8bit.md R288): the first leaves the low nibble
that the second tests. -/
theorem daaAdjust_false_toNat (a : Byte) (h c : Bool) :
    (daaAdjust a false h c).1.toNat =
      (a.toNat + (if c = true ∨ a.toNat > 0x99 then 0x60 else 0) +
        if h = true ∨ a.toNat % 16 > 9 then 0x06 else 0) % 256 := by
  have hfirst := ite_add_toNat (c = true ∨ a.toNat > 0x99) a 0x60
  simp only [daaAdjust, Bool.or_eq_true, decide_eq_true_eq, Bool.false_eq_true, if_false]
  generalize (if c = true ∨ a.toNat > 0x99 then a + 0x60 else a) = a1 at hfirst ⊢
  have hnibble : a1.toNat % 16 = a.toNat % 16 := by
    rw [hfirst]
    split
    · show (a.toNat + 0x60) % 256 % 16 = _
      omega
    · omega
  rw [ite_add_toNat, hnibble, hfirst, Nat.mod_add_mod]
  rfl

theorem daaAdjust_false_carry (a : Byte) (h c : Bool) :
    (daaAdjust a false h c).2 = true ↔ c = true ∨ a.toNat > 0x99 := by
  show (c || decide (a.toNat > 0x99)) = true ↔ _
  rw [Bool.or_eq_true, decide_eq_true_iff]

/-- The state DAA leaves, but for the cycle counter: A and C are adjusted, Z is the test of A, N is kept and H cleared
(42_alu_8bit.md R288). -/
def State.decimalAdjusted (s : State) : State :=
  (s.setReg .a (daaAdjust s.a s.flagN s.flagH s.flagC).1).setFlags ((daaAdjust s.a s.flagN s.flagH s.flagC).1 == 0)
    s.flagN false (daaAdjust s.a s.flagN s.flagH s.flagC).2

section
variable (s : State)

theorem decimalAdjust_eq : decimalAdjust s = done 4 s.decimalAdjusted := rfl

theorem decimalAdjusted_a : s.decimalAdjusted.a = (daaAdjust s.a s.flagN s.flagH s.flagC).1 := rfl

theorem decimalAdjusted_flagZ : s.decimalAdjusted.flagZ = decide (s.decimalAdjusted.a = 0) :=
  setFlags_flagZ _ _ _ _ _

theorem decimalAdjusted_flagN : s.decimalAdjusted.flagN = s.flagN := setFlags_flagN _ _ _ _ _

theorem decimalAdjusted_flagH : s.decimalAdjusted.flagH = false := setFlags_flagH _ _ _ _ _

theorem decimalAdjusted_flagC : s.decimalAdjusted.flagC = (daaAdjust s.a s.flagN s.flagH s.flagC).2 :=
  setFlags_flagC _ _ _ _ _

theorem regsKept_decimalAdjusted : RegsKept [.a] s s.decimalAdjusted :=
  (regsKept_setReg s .a _).trans (regsKept_setFlags _ _ _ _ _)

end

/-- Settles O45: A and C are those of `daaAdjust`, whose branch N chooses (`decimalAdjust` itself names the model's
operation). -/
theorem decimalAdjust_holds : Obligations.DecimalAdjust := by
  intro s a high low
  have hadd (hn : s.flagN = false) :
      s.decimalAdjusted.a.toNat = (a + (if high then 0x60 else 0) + if low then 0x06 else 0) % 256 := by
    rw [decimalAdjusted_a, hn]
    exact daaAdjust_false_toNat s.a s.flagH s.flagC
  have hsub (hn : s.flagN = true) :
      s.decimalAdjusted.a.toNat = (a + 512 - 0x60 * s.flagC.toNat - 0x06 * s.flagH.toNat) % 256 := by
    rw [decimalAdjusted_a, hn]
    exact daaAdjust_true_toNat s.a s.flagH s.flagC
  have haddCarry (hn : s.flagN = false) : s.decimalAdjusted.flagC = true ↔ high := by
    rw [decimalAdjusted_flagC, hn]
    exact daaAdjust_false_carry s.a s.flagH s.flagC
  have hsubCarry (hn : s.flagN = true) : s.decimalAdjusted.flagC = s.flagC := by
    rw [decimalAdjusted_flagC, hn]
    rfl
  refine ⟨rfl, s.decimalAdjusted.charge 4, decimalAdjust_eq s, fun hn hhigh hlow => ?_, fun hn hhigh hlow => ?_,
    fun hn hhigh hlow => ?_, fun hn hhigh hlow => ?_, hsub, haddCarry, hsubCarry, decimalAdjusted_flagZ s,
    decimalAdjusted_flagN s, decimalAdjusted_flagH s, mask_lowNibble _, regsKept_decimalAdjusted s, rfl, rfl, .refl s,
    fun _ => rfl, rfl⟩
  · exact (hadd hn).trans (by rw [if_pos hhigh, if_pos hlow])
  · exact (hadd hn).trans (by rw [if_pos hhigh, if_neg hlow])
  · exact (hadd hn).trans (by rw [if_neg hhigh, if_pos hlow])
  · rw [if_neg hhigh, if_neg hlow] at hadd
    exact (hadd hn).trans (Nat.mod_eq_of_lt s.a.isLt)

/-! ### The complement and the carry flag -/

/-- Settles O46: CPL writes A and the flags, SCF and CCF write the flags alone. -/
theorem complementAndCarryFlag : Obligations.ComplementAndCarryFlag := by
  intro s
  refine ⟨⟨rfl, ?_⟩, ⟨rfl, setsFlags_done s.flagZ false false true 4 s⟩,
    rfl, setsFlags_done s.flagZ false false (!s.flagC) 4 s⟩
  have hnot : (~~~s.a).toNat = 255 - s.a.toNat := BitVec.toNat_not
  rw [← hnot]
  exact setsRegFlags_done .a (~~~s.a) s.flagZ true true s.flagC 4 s

end Sys2Proof.Machine
end

section
/-! PROOFS of the family of 16-bit arithmetic (43_alu_16bit.md). What a write of a pair changes and leaves is said for
every pair; ADD HL,rr is a write of HL and then of the flags, INC rr and DEC rr are a write of the pair alone. -/

namespace Sys2Proof.Machine

open Sys2Proof.Claims

/-! ### The bytes of a row -/

/-- `00 pp1 001` (43_alu_16bit.md R301). -/
theorem encode_rowAddHl (p : Pair) : encode (rowAddHl p) = [byte (0x09 + 16 * pairCode p)] := by
  cases p <;> rfl

/-- `00 pp0 011` (43_alu_16bit.md R302). -/
theorem encode_rowIncPair (p : Pair) : encode (rowIncPair p) = [byte (0x03 + 16 * pairCode p)] := by
  cases p <;> rfl

/-- `00 pp1 011` (43_alu_16bit.md R303). -/
theorem encode_rowDecPair (p : Pair) : encode (rowDecPair p) = [byte (0x0B + 16 * pairCode p)] := by
  cases p <;> rfl

/-! ### ADD HL,rr -/

/-- The answer is a next state in which HL holds the value `v` and F the given flags, at 8 cycles, and nothing else
has changed. -/
def SetsHlFlags (v : Nat) (z n h c : Bool) (s : State) (result : Result) : Prop :=
  ∃ t, result = .next t ∧
    t.hl.toNat = v ∧ FlagsAre t z n h c ∧
    RegsKept [.h, .l] s t ∧ t.sp = s.sp ∧ t.pc = s.pc ∧ ControlKept s t ∧ MemoryKept s t ∧ t.cycles = s.cycles + 8

theorem setsHlFlags_done (v : Word) (z n h c : Bool) (s : State) :
    SetsHlFlags v.toNat z n h c s (done 8 ((s.setHl v).setFlags z n h c)) :=
  ⟨((s.setHl v).setFlags z n h c).charge 8, rfl, congrArg BitVec.toNat (setHl_hl s v),
    flagsAre_setFlags (s.setHl v) z n h c, (regsKept_setHl s v).trans (regsKept_setFlags _ z n h c), rfl, rfl, .refl s,
    setHl_read s v, rfl⟩

/-- Settles O47: each of the four rows writes HL with the sum, and then the flags of `addHl`. -/
theorem addPairToHl : Obligations.AddPairToHl := by
  intro s p x y
  have hsum : (s.hl + s.pair p).toNat = (x + y) % 65536 := BitVec.toNat_add s.hl (s.pair p)
  rw [exec_rowAddHl, ← hsum]
  exact ⟨encode_rowAddHl p, setsHlFlags_done (s.hl + s.pair p) s.flagZ false _ _ s⟩

/-! ### Writes of an `r16` operand -/

/-- The 8-bit registers that a write of a pair changes (10_state.md R24). -/
def pairRegs (p : Pair) : List Reg8 :=
  match p with
  | .bc => [.b, .c]
  | .de => [.d, .e]
  | .hl => [.h, .l]
  | .sp => []

theorem regsKept_setPair (s : State) (p : Pair) (v : Word) : RegsKept (pairRegs p) s (s.setPair p v) := by
  cases p with
  | bc => exact (writesPair_setBc s v).regs
  | de => exact (writesPair_setDe s v).regs
  | hl => exact regsKept_setHl s v
  | sp => exact regsKept_setSp s v

@[simp] theorem setPair_pair (s : State) (p : Pair) (v : Word) : (s.setPair p v).pair p = v := by
  cases p with
  | bc => exact setBc_bc s v
  | de => exact setDe_de s v
  | hl => exact setHl_hl s v
  | sp => rfl

theorem setPair_sp_of_ne (s : State) {p : Pair} (hp : p ≠ .sp) (v : Word) : (s.setPair p v).sp = s.sp := by
  cases p with
  | sp => exact absurd rfl hp
  | bc | de | hl => rfl

@[simp] theorem setPair_f (s : State) (p : Pair) (v : Word) : (s.setPair p v).f = s.f := by cases p <;> rfl
@[simp] theorem setPair_pc (s : State) (p : Pair) (v : Word) : (s.setPair p v).pc = s.pc := by cases p <;> rfl

theorem setPair_read (s : State) (p : Pair) (v : Word) : MemoryKept s (s.setPair p v) := by
  cases p with
  | bc => exact setBc_read s v
  | de => exact setDe_read s v
  | hl => exact setHl_read s v
  | sp => exact setSp_read s v

@[simp] theorem charge_pair (s : State) (n : Nat) (p : Pair) : (s.charge n).pair p = s.pair p := by cases p <;> rfl

/-! ### INC rr and DEC rr -/

/-- The answer is a next state in which the pair holds the value `v`, at 8 cycles, and nothing else has changed, no
flag among it. -/
def MovesPair (p : Pair) (v : Nat) (s : State) (result : Result) : Prop :=
  ∃ t, result = .next t ∧
    (t.pair p).toNat = v ∧
    RegsKept (pairRegs p) s t ∧ (p ≠ .sp → t.sp = s.sp) ∧ t.f = s.f ∧ t.pc = s.pc ∧ ControlKept s t ∧
    MemoryKept s t ∧ t.cycles = s.cycles + 8

theorem movesPair_done (p : Pair) (v : Word) (s : State) : MovesPair p v.toNat s (done 8 (s.setPair p v)) :=
  ⟨(s.setPair p v).charge 8, rfl, congrArg BitVec.toNat ((charge_pair _ 8 p).trans (setPair_pair s p v)),
    fun r hr => (charge_reg _ 8 r).trans (regsKept_setPair s p v r hr), fun hp => setPair_sp_of_ne s hp v,
    setPair_f s p v, setPair_pc s p v, controlKept_setPair s p v, setPair_read s p v,
    congrArg (· + 8) (setPair_cycles s p v)⟩

/-- `INC rr` (43_alu_16bit.md R302). -/
theorem movesPair_incPair (p : Pair) (s : State) :
    MovesPair p (((s.pair p).toNat + 1) % 65536) s (incPair p s) := by
  have hinc : (s.pair p + 1).toNat = ((s.pair p).toNat + 1) % 65536 := BitVec.toNat_add (s.pair p) 1
  rw [← hinc]
  exact movesPair_done p (s.pair p + 1) s

/-- `DEC rr` (43_alu_16bit.md R303). -/
theorem movesPair_decPair (p : Pair) (s : State) :
    MovesPair p (((s.pair p).toNat + 65535) % 65536) s (decPair p s) := by
  rw [← sub_one_toNat]
  exact movesPair_done p (s.pair p - 1) s

/-- Settles O48: each row writes the pair with its value plus or minus one, and leaves F alone. -/
theorem incAndDecPair : Obligations.IncAndDecPair := by
  intro s p changed
  have hchanged : changed = pairRegs p := by cases p <;> rfl
  rw [hchanged, exec_rowIncPair, exec_rowDecPair]
  exact ⟨⟨encode_rowIncPair p, movesPair_incPair p s⟩, encode_rowDecPair p, movesPair_decPair p s⟩

end Sys2Proof.Machine
end

section
/-! PROOFS of the family of rotates, shifts and bit operations (44_rotate_shift_bit.md). The functions of R350 are said
in numbers (`shiftCompute_fst_toNat`, `shiftCompute_snd_toNat`), by what a shifted byte with one bit put in is; what
a row answers is what the loads and the ALU rows answer, with that result. -/

namespace Sys2Proof.Machine

open Sys2Proof.Claims

/-! ### The bytes of a row -/

/-- `00 ooo zzz` behind 0xCB (44_rotate_shift_bit.md R355 to R369). -/
theorem encode_rowShiftR (op : ShiftOp) (r : Reg8) :
    encode (rowShiftR op r) = [0xCB, byte (8 * shiftCode op + code r)] := by
  cases op <;> cases r <;> rfl

/-- `00 ooo 110` behind 0xCB (44_rotate_shift_bit.md R356 to R370). -/
theorem encode_rowShiftHl (op : ShiftOp) : encode (rowShiftHl op) = [0xCB, byte (8 * shiftCode op + 6)] := by
  cases op <;> rfl

/-- `01 bbb zzz` behind 0xCB (44_rotate_shift_bit.md R371). -/
theorem encode_rowBitR (b : Fin 8) (r : Reg8) :
    encode (rowBitR b r) = [0xCB, byte (0x40 + 8 * b.val + code r)] := by
  revert b
  cases r <;> decide

/-- `01 bbb 110` behind 0xCB (44_rotate_shift_bit.md R372). -/
theorem encode_rowBitHl : ∀ b : Fin 8, encode (rowBitHl b) = [0xCB, byte (0x46 + 8 * b.val)] := by decide

/-- `10 bbb zzz` behind 0xCB (44_rotate_shift_bit.md R373). -/
theorem encode_rowResR (b : Fin 8) (r : Reg8) :
    encode (rowResR b r) = [0xCB, byte (0x80 + 8 * b.val + code r)] := by
  revert b
  cases r <;> decide

/-- `10 bbb 110` behind 0xCB (44_rotate_shift_bit.md R374). -/
theorem encode_rowResHl : ∀ b : Fin 8, encode (rowResHl b) = [0xCB, byte (0x86 + 8 * b.val)] := by decide

/-- `11 bbb zzz` behind 0xCB (44_rotate_shift_bit.md R375). -/
theorem encode_rowSetR (b : Fin 8) (r : Reg8) :
    encode (rowSetR b r) = [0xCB, byte (0xC0 + 8 * b.val + code r)] := by
  revert b
  cases r <;> decide

/-- `11 bbb 110` behind 0xCB (44_rotate_shift_bit.md R376). -/
theorem encode_rowSetHl : ∀ b : Fin 8, encode (rowSetHl b) = [0xCB, byte (0xC6 + 8 * b.val)] := by decide

/-! ### The functions of R350 in numbers -/

section
variable (v : Byte)

/-- The bit that a right shift moves out. -/
theorem bit0_toNat : (v.getLsbD 0).toNat = v.toNat % 2 := by
  rw [BitVec.getLsbD, Nat.toNat_testBit, pow_zero, Nat.div_one]

/-- The bit that a left shift moves out. -/
theorem bit7_toNat : (v.getLsbD 7).toNat = v.toNat / 128 := by
  have hlt := v.isLt
  rw [BitVec.getLsbD, Nat.toNat_testBit]
  omega

/-- A left shift doubles, and the bit put in at the bottom is added. -/
theorem shiftLeft_or_bit_toNat (bit : Bool) :
    (v <<< 1 ||| BitVec.ofNat 8 (carryNat bit)).toNat = (2 * v.toNat + bit.toNat) % 256 := by
  have hdouble : (v <<< 1).toNat = 2 ^ 1 * (v.toNat % 128) := by
    rw [BitVec.toNat_shiftLeft, Nat.shiftLeft_eq]
    omega
  have hbottom : (BitVec.ofNat 8 (carryNat bit)).toNat = bit.toNat := by cases bit <;> rfl
  have hlt : bit.toNat < 2 ^ 1 := bit.toNat_lt
  rw [BitVec.toNat_or, hdouble, hbottom, ← Nat.two_pow_add_eq_or_of_lt hlt]
  omega

/-- A bit moved to the top of a byte. -/
theorem bit_shiftLeft_toNat (bit : Bool) : (BitVec.ofNat 8 (carryNat bit) <<< 7).toNat = 2 ^ 7 * bit.toNat := by
  cases bit <;> rfl

/-- A right shift halves, and the bit put in at the top adds 128. -/
theorem shiftRight_or_bit_toNat (bit : Bool) :
    (v >>> 1 ||| BitVec.ofNat 8 (carryNat bit) <<< 7).toNat = v.toNat / 2 + 128 * bit.toNat := by
  have hlt := v.isLt
  have hhalf : v.toNat / 2 < 2 ^ 7 := by omega
  rw [BitVec.toNat_or, BitVec.toNat_ushiftRight, bit_shiftLeft_toNat, Nat.shiftRight_eq_div_pow, pow_one, Nat.or_comm,
    ← Nat.two_pow_add_eq_or_of_lt hhalf]
  omega

/-- The mask of bit 7, which SRA keeps (44_rotate_shift_bit.md R350). -/
theorem and_bit7 : v &&& (0x80 : Byte) = BitVec.ofNat 8 (carryNat (v.getLsbD 7)) <<< 7 := by
  apply BitVec.eq_of_toNat_eq
  rw [bit_shiftLeft_toNat, BitVec.toNat_and, Nat.mul_comm]
  exact Nat.and_two_pow v.toNat 7

/-- The nibbles change places. -/
theorem swap_toNat : ((v &&& (0x0F : Byte)) <<< 4 ||| v >>> 4).toNat = 16 * (v.toNat % 16) + v.toNat / 16 := by
  have hlt := v.isLt
  have hhigh : v.toNat / 2 ^ 4 < 2 ^ 4 := by omega
  have hlow : (v &&& (0x0F : Byte)).toNat = v.toNat % 2 ^ 4 := Nat.and_two_pow_sub_one_eq_mod v.toNat 4
  have hshift : ((v &&& (0x0F : Byte)) <<< 4).toNat = 2 ^ 4 * (v.toNat % 2 ^ 4) := by
    rw [BitVec.toNat_shiftLeft, hlow, Nat.shiftLeft_eq]
    omega
  rw [BitVec.toNat_or, hshift, BitVec.toNat_ushiftRight, Nat.shiftRight_eq_div_pow,
    ← Nat.two_pow_add_eq_or_of_lt hhigh]
  rfl

end

/-- The result of each function (44_rotate_shift_bit.md R350). -/
theorem shiftCompute_fst_toNat (op : ShiftOp) (v : Byte) (cin : Bool) :
    (shiftCompute op v cin).1.toNat = (shiftTable op v.toNat cin.toNat).1 := by
  cases op with
  | rlc => exact (shiftLeft_or_bit_toNat v _).trans (by rw [bit7_toNat]; rfl)
  | rrc => exact (shiftRight_or_bit_toNat v _).trans (by rw [bit0_toNat]; rfl)
  | rl => exact shiftLeft_or_bit_toNat v cin
  | rr => exact shiftRight_or_bit_toNat v cin
  | sla => exact (BitVec.toNat_shiftLeft ..).trans (by rw [Nat.shiftLeft_eq, Nat.mul_comm]; rfl)
  | sra =>
    show (v >>> 1 ||| v &&& (0x80 : Byte)).toNat = _
    rw [and_bit7, shiftRight_or_bit_toNat, bit7_toNat]
    rfl
  | swap => exact swap_toNat v
  | srl => exact (BitVec.toNat_ushiftRight ..).trans (Nat.shiftRight_eq_div_pow v.toNat 1)

/-- The carry out of each function (44_rotate_shift_bit.md R350). -/
theorem shiftCompute_snd_toNat (op : ShiftOp) (v : Byte) (cin : Bool) :
    (shiftCompute op v cin).2.toNat = (shiftTable op v.toNat cin.toNat).2 := by
  cases op with
  | rlc | rl | sla => exact bit7_toNat v
  | rrc | rr | sra | srl => exact bit0_toNat v
  | swap => rfl

/-- The carry out as the flag C. -/
theorem shiftCompute_snd (op : ShiftOp) (v : Byte) (cin : Bool) :
    (shiftCompute op v cin).2 = decide ((shiftTable op v.toNat cin.toNat).2 = 1) := by
  rw [← shiftCompute_snd_toNat]
  cases (shiftCompute op v cin).2 <;> rfl

/-- The result as the flag Z. -/
theorem shiftCompute_fst_beq_zero (op : ShiftOp) (v : Byte) (cin : Bool) :
    ((shiftCompute op v cin).1 == 0) = decide ((shiftTable op v.toNat cin.toNat).1 = 0) :=
  beq_zero_of_toNat (shiftCompute_fst_toNat op v cin)

/-! ### Rotates and shifts -/

/-- What a rotate of A answers (44_rotate_shift_bit.md R351 to R354). -/
theorem setsRegFlags_rotateA (op : ShiftOp) (s : State) :
    SetsRegFlags .a (shiftTable op s.a.toNat s.flagC.toNat).1 false false false
      (decide ((shiftTable op s.a.toNat s.flagC.toNat).2 = 1)) 4 s (rotateA op s) := by
  rw [← shiftCompute_fst_toNat, ← shiftCompute_snd]
  exact setsRegFlags_done .a _ false false false _ 4 s

/-- Settles O49: each of the four rows runs `rotateA`. -/
theorem accumulatorRotates : Obligations.AccumulatorRotates := by
  intro s row hrow
  simp only [List.mem_cons, List.not_mem_nil, or_false] at hrow
  rcases hrow with rfl | rfl | rfl | rfl
  · exact ⟨rfl, setsRegFlags_rotateA .rlc s⟩
  · exact ⟨rfl, setsRegFlags_rotateA .rrc s⟩
  · exact ⟨rfl, setsRegFlags_rotateA .rl s⟩
  · exact ⟨rfl, setsRegFlags_rotateA .rr s⟩

/-- Settles O50: each of the 56 rows runs `shiftReg`. -/
theorem shiftsOfARegister : Obligations.ShiftsOfARegister := by
  intro s op r out
  refine ⟨encode_rowShiftR op r, ?_⟩
  rw [exec_rowShiftR, ← shiftCompute_fst_beq_zero, ← shiftCompute_fst_toNat, ← shiftCompute_snd]
  exact setsRegFlags_done r _ _ false false _ 8 s

/-- A store at HL and then a write of the flags, at any cost: the cost shows in the cycle counter alone. -/
theorem storesHlAndFlags_done (v : Byte) (z n h c : Bool) (cost : Nat) (s : State) :
    ∃ t, done cost ((s.writeHl v).setFlags z n h c) = .next t ∧
      Stored s.hl v s t ∧ FlagsAre t z n h c ∧
      RegsKept [] s t ∧ t.sp = s.sp ∧ t.pc = s.pc ∧ ControlKept s t ∧ t.cycles = s.cycles + cost := by
  obtain ⟨_, ⟨⟩, hstored, hflags, hregs, hsp, hpc, hcontrol, -⟩ := storesAndSetsFlags_done v z n h c s
  exact ⟨((s.writeHl v).setFlags z n h c).charge cost, rfl, hstored, hflags, hregs, hsp, hpc, hcontrol,
    congrArg (· + cost) (write_cycles s s.hl v)⟩

/-- Settles O51: each of the eight rows runs `shiftMem`, a store at HL and then a write of the flags. -/
theorem shiftsOfMemory : Obligations.ShiftsOfMemory := by
  intro s op out
  have hbyte : byte out.1 = (shiftCompute op (s.read s.hl) s.flagC).1 := by
    rw [byte, ← shiftCompute_fst_toNat, BitVec.ofNat_toNat, BitVec.setWidth_eq]
  rw [exec_rowShiftHl, hbyte, ← shiftCompute_fst_beq_zero, ← shiftCompute_snd]
  exact ⟨encode_rowShiftHl op, storesHlAndFlags_done _ _ false false _ 16 s⟩

/-! ### The single-bit operations -/

/-- The bit that BIT tests, in numbers. -/
theorem not_getLsbD_eq_decide (v : Byte) (i : Nat) : (!v.getLsbD i) = decide (v.toNat / 2 ^ i % 2 = 0) := by
  rw [BitVec.getLsbD, Nat.testBit_eq_decide_div_mod_eq, ← decide_not]
  exact decide_eq_decide.2 (by omega)

/-- Settles O52: each row writes the flags alone, Z from the bit of its operand. -/
theorem bitTests : Obligations.BitTests := by
  intro s b r
  rw [exec_rowBitR, exec_rowBitHl, ← not_getLsbD_eq_decide, ← not_getLsbD_eq_decide]
  exact ⟨⟨encode_rowBitR b r, setsFlags_done _ false true s.flagC 8 s⟩,
    encode_rowBitHl b, setsFlags_done _ false true s.flagC 12 s⟩

/-- `v` is `w` with bit `b` made `bit`. -/
def HasBitWritten (b : Fin 8) (bit : Bool) (w v : Byte) : Prop :=
  ∀ k : Fin 8, v.getLsbD k = if k = b then bit else w.getLsbD k

theorem hasBitWritten_clearBit (b : Fin 8) (v : Byte) : HasBitWritten b false v (clearBit b v) := and_not_bit v b

theorem hasBitWritten_setBit (b : Fin 8) (v : Byte) : HasBitWritten b true v (setBit b v) := or_bit v b

/-- The bit written and the bits kept are the whole byte. -/
theorem HasBitWritten.unique {b : Fin 8} {bit : Bool} {w u v : Byte} (hu : HasBitWritten b bit w u)
    (hv : HasBitWritten b bit w v) : u = v :=
  BitVec.eq_of_getLsbD_eq fun i hi => (hu ⟨i, hi⟩).trans (hv ⟨i, hi⟩).symm

/-- The answer is a next state in which bit `b` of `r` is `bit`, at 8 cycles, and nothing else has changed, no other
bit of `r` and no flag among it. -/
def WritesBit (b : Fin 8) (bit : Bool) (r : Reg8) (s : State) (result : Result) : Prop :=
  ∃ t, result = .next t ∧
    HasBitWritten b bit (s.reg r) (t.reg r) ∧
    RegsKept [r] s t ∧ t.f = s.f ∧ t.sp = s.sp ∧ t.pc = s.pc ∧ ControlKept s t ∧ MemoryKept s t ∧
    t.cycles = s.cycles + 8

/-- A register loaded with its value but for one bit has that bit written. -/
theorem HasBitWritten.writesBit {b : Fin 8} {bit : Bool} {r : Reg8} {v : Byte} {s : State}
    (hv : HasBitWritten b bit (s.reg r) v) : WritesBit b bit r s (done 8 (s.setReg r v)) := by
  obtain ⟨t, ht, hreg, hframe⟩ := loadsReg_done r v 8 s
  exact ⟨t, ht, hreg ▸ hv, hframe⟩

/-- Settles O53: each row writes the register with `clearBit` or `setBit` of it. -/
theorem bitWritesOfARegister : Obligations.BitWritesOfARegister := by
  intro s b r
  rw [exec_rowResR, exec_rowSetR]
  exact ⟨⟨encode_rowResR b r, (hasBitWritten_clearBit b (s.reg r)).writesBit⟩,
    encode_rowSetR b r, (hasBitWritten_setBit b (s.reg r)).writesBit⟩

/-- Settles O54: each row stores `clearBit` or `setBit` of the byte read at HL, the one byte with the bit written. -/
theorem bitWritesOfMemory : Obligations.BitWritesOfMemory := by
  intro s b v
  rw [exec_rowResHl, exec_rowSetHl]
  constructor <;> intro hv
  · rw [HasBitWritten.unique hv (hasBitWritten_clearBit b (s.read s.hl))]
    exact ⟨encode_rowResHl b, storesByte_storeMem 16 s.hl _ s⟩
  · rw [HasBitWritten.unique hv (hasBitWritten_setBit b (s.read s.hl))]
    exact ⟨encode_rowSetHl b, storesByte_storeMem 16 s.hl _ s⟩

end Sys2Proof.Machine
end

section
/-! PROOFS of the family of control transfer (45_control.md). A conditional row is its condition, said by the bits of F
(`cond_iff_holds`), and one of two answers; what a jump, a call and a return answer is said once, at any cost. -/

namespace Sys2Proof.Machine

open Sys2Proof.Claims

/-! ### The bytes of a row -/

/-- `11 0cc 010 lo hi` (45_control.md R401). -/
theorem encode_rowJpCc (cc : Cond) (nn : Word) :
    encode (rowJpCc cc nn) = [byte (0xC2 + 8 * ccCode cc), byte (nn.toNat % 256), byte (nn.toNat / 256)] := by
  cases cc <;> exact immediate16_eq_bytes _ nn

/-- `00 1cc 000 e` (45_control.md R404). -/
theorem encode_rowJrCc (cc : Cond) (e : Byte) : encode (rowJrCc cc e) = [byte (0x20 + 8 * ccCode cc), e] := by
  cases cc <;> rfl

/-- `11 001 101 lo hi` (45_control.md R405). -/
theorem encode_call_nn (nn : Word) :
    encode (.call_nn nn) = [0xCD, byte (nn.toNat % 256), byte (nn.toNat / 256)] := immediate16_eq_bytes 0xCD nn

/-- `11 0cc 100 lo hi` (45_control.md R406). -/
theorem encode_rowCallCc (cc : Cond) (nn : Word) :
    encode (rowCallCc cc nn) = [byte (0xC4 + 8 * ccCode cc), byte (nn.toNat % 256), byte (nn.toNat / 256)] := by
  cases cc <;> exact immediate16_eq_bytes _ nn

/-- `11 0cc 000` (45_control.md R408). -/
theorem encode_rowRetCc (cc : Cond) : encode (rowRetCc cc) = [byte (0xC0 + 8 * ccCode cc)] := by
  cases cc <;> rfl

/-- `11 yyy 111` (45_control.md R410). -/
theorem encode_rowRst : ∀ y : Fin 8, encode (rowRst y) = [byte (0xC7 + 8 * y.val)] := by decide

/-! ### The two answers of a conditional row -/

/-- The condition as the claims say it (30_encoding.md R107). -/
theorem cond_iff_holds (s : State) (cc : Cond) : s.cond cc = true ↔ Holds cc s := by
  cases cc with
  | nz => exact .of_eq (Bool.not_eq_true' s.flagZ)
  | nc => exact .of_eq (Bool.not_eq_true' s.flagC)
  | z | c => exact .rfl

section
variable {s : State} {cc : Cond}

theorem jumpIf_of_holds (nn : Word) (h : Holds cc s) : jumpIf cc nn s = done 16 (s.setPc nn) :=
  if_pos ((cond_iff_holds s cc).2 h)

theorem jumpIf_of_not_holds (nn : Word) (h : ¬Holds cc s) : jumpIf cc nn s = done 12 s :=
  if_neg (mt (cond_iff_holds s cc).1 h)

theorem jumpRelativeIf_of_holds (e : Byte) (h : Holds cc s) : jumpRelativeIf cc e s = done 12 (s.jumpRelative e) :=
  if_pos ((cond_iff_holds s cc).2 h)

theorem jumpRelativeIf_of_not_holds (e : Byte) (h : ¬Holds cc s) : jumpRelativeIf cc e s = done 8 s :=
  if_neg (mt (cond_iff_holds s cc).1 h)

theorem callIf_of_holds (nn : Word) (h : Holds cc s) : callIf cc nn s = done 24 (s.call nn) :=
  if_pos ((cond_iff_holds s cc).2 h)

theorem callIf_of_not_holds (nn : Word) (h : ¬Holds cc s) : callIf cc nn s = done 12 s :=
  if_neg (mt (cond_iff_holds s cc).1 h)

theorem retIf_of_holds (h : Holds cc s) : retIf cc s = done 20 s.ret :=
  if_pos ((cond_iff_holds s cc).2 h)

theorem retIf_of_not_holds (h : ¬Holds cc s) : retIf cc s = done 8 s :=
  if_neg (mt (cond_iff_holds s cc).1 h)

end

/-! ### Jumps -/

/-- The answer is the state with PC moved by the signed displacement, modulo 65536, at 12 cycles. -/
def JumpsBy (e : Byte) (s : State) (r : Result) : Prop :=
  ∃ target : Word, (target.toNat : Int) = ((s.pc.toNat : Int) + e.toInt) % 65536 ∧
    r = .next { s with pc := target, cycles := s.cycles + 12 }

/-- A relative jump (45_control.md R403). -/
theorem jumpsBy_jumpRelative (e : Byte) (s : State) : JumpsBy e s (done 12 (s.jumpRelative e)) :=
  ⟨s.pc + sext16 e, add_sext16_toNat s.pc e, rfl⟩

/-- Settles O55: each of the three rows sets PC and nothing else, JR to the sum with its displacement. -/
theorem unconditionalJumps : Obligations.UnconditionalJumps := by
  intro s nn e
  exact ⟨⟨immediate16_eq_bytes 0xC3 nn, rfl⟩, ⟨rfl, rfl⟩, rfl, jumpsBy_jumpRelative e s⟩

/-- Settles O56: taken, a row answers as JP nn or JR e8 does; not taken, it adds its cost alone. -/
theorem conditionalJumps : Obligations.ConditionalJumps := by
  intro s cc nn e
  rw [exec_rowJpCc, exec_rowJrCc]
  refine ⟨encode_rowJpCc cc nn, jumpIf_of_holds nn, jumpIf_of_not_holds nn, encode_rowJrCc cc e, fun h => ?_,
    jumpRelativeIf_of_not_holds e⟩
  rw [jumpRelativeIf_of_holds e h]
  exact jumpsBy_jumpRelative e s

/-! ### Calls -/

/-- The answer is a next state with PCnext pushed and PC at the target, and nothing else has changed but the cycle
counter. -/
def Calls (target : Word) (cost : Nat) (s : State) (r : Result) : Prop :=
  ∃ t, r = .next t ∧
    StoredWord (s.sp - 2) s.pc s t ∧ t.sp = s.sp - 2 ∧ t.pc = target ∧
    RegsKept [] s t ∧ t.f = s.f ∧ ControlKept s t ∧
    t.cycles = s.cycles + cost

/-- From `s` to `t` the word `v` is pushed (41_loads_16bit.md R203), and nothing else has changed. -/
structure Pushed (v : Word) (s t : State) : Prop where
  stored : StoredWord (s.sp - 2) v s t
  sp : t.sp = s.sp - 2
  regs : RegsKept [] s t
  f : t.f = s.f
  control : ControlKept s t
  cycles : t.cycles = s.cycles

theorem pushed_push16 (s : State) (v : Word) : Pushed v s (s.push16 v) where
  stored := storedWord_push16 s v
  sp := push16_sp s v
  regs := regsKept_push16 s v
  f := push16_f s v
  control := controlKept_push16 s v
  cycles := push16_cycles s v

/-- After the push of PCnext a call sets PC alone (45_control.md R405). -/
theorem Pushed.calls {s t : State} (h : Pushed s.pc s t) (target : Word) (cost : Nat) :
    Calls target cost s (done cost (t.setPc target)) :=
  ⟨(t.setPc target).charge cost, rfl, h.stored.of_memoryKept fun _ => rfl, h.sp, rfl,
    fun r hr => ((charge_reg _ cost r).trans (setPc_reg t target r)).trans (h.regs r hr),
    h.f, h.control, congrArg (· + cost) h.cycles⟩

theorem calls_call (target : Word) (cost : Nat) (s : State) : Calls target cost s (done cost (s.call target)) :=
  (pushed_push16 s s.pc).calls target cost

/-- No row spelt by three bytes is an RST, which is one byte. -/
theorem ne_rowRst_of_encode {i : Instr} {op low high : Byte} (h : encode i = [op, low, high]) (y : Fin 8) :
    i ≠ rowRst y := by
  rintro rfl
  rw [encode_rowRst] at h
  cases h

/-- Settles O57: CALL, a CALL cc taken and RST run `call` with their own target and cost. -/
theorem callsPushTheReturnAddress : Obligations.CallsPushTheReturnAddress := by
  intro s cc nn y
  refine ⟨fun row hrow => ?_, fun h => ?_⟩
  · simp only [List.mem_cons, List.not_mem_nil, or_false] at hrow
    rcases hrow with rfl | rfl | rfl
    · rw [if_neg (ne_rowRst_of_encode (encode_call_nn nn) y)]
      exact ⟨encode_call_nn nn, fun _ => calls_call nn 24 s⟩
    · rw [if_neg (ne_rowRst_of_encode (encode_rowCallCc cc nn) y), exec_rowCallCc]
      refine ⟨encode_rowCallCc cc nn, fun htaken => ?_⟩
      rw [callIf_of_holds nn (htaken rfl)]
      exact calls_call nn 24 s
    · rw [if_pos rfl, exec_rowRst]
      exact ⟨encode_rowRst y, fun _ => calls_call _ 16 s⟩
  · rw [exec_rowCallCc, callIf_of_not_holds nn h]
    rfl

/-! ### Returns -/

/-- The popped word is the one whose low byte is at SP and whose high byte is at SP + 1 (45_control.md R407). -/
theorem stackTop_eq {s : State} {target : Word}
    (h : target.toNat = (s.read (s.sp + 1)).toNat * 256 + (s.read s.sp).toNat) : s.stackTop = target :=
  BitVec.eq_of_toNat_eq ((pack_toNat _ _).trans h.symm)

/-- What a return answers, whole (45_control.md R407). -/
theorem ret_next (cost : Nat) (s : State) :
    done cost s.ret = .next { s with pc := s.stackTop, sp := s.sp + 2, cycles := s.cycles + cost } := by
  rw [← dropStack_sp]
  rfl

/-- Settles O58: RET and a RET cc taken run `ret`, and RETI sets IME with it. -/
theorem returnsPopThePc : Obligations.ReturnsPopThePc := by
  intro s cc target htarget
  obtain rfl := stackTop_eq htarget
  rw [exec_rowRetCc]
  exact ⟨⟨rfl, ret_next 16 s⟩, ⟨rfl, returnFromInterrupt_next s⟩, encode_rowRetCc cc,
    fun h => (retIf_of_holds h).trans (ret_next 20 s), retIf_of_not_holds⟩

end Sys2Proof.Machine
end

section
/-! PROOFS of the system family (46_system.md). The rows' whole next states are laws of their operations; what EI
delays is told by what a fetching step answers: its routine's next state, with the delayed enable. -/

namespace Sys2Proof.Machine

open Sys2Proof.Claims

/-! ### NOP, DI, STOP and HALT -/

/-- Settles O59, by the whole next state of each row. -/
theorem nopDiAndStop : Obligations.NopDiAndStop :=
  fun s _ => ⟨⟨rfl, rfl⟩, ⟨rfl, disableInterrupts_next s⟩, rfl, stopCore_next s⟩

/-- Settles O60: the guards of the rule choose the case of `haltCore`. -/
theorem haltCases : Obligations.HaltCases := by
  intro s
  have hpending : s.hasPending = true ↔ pendingSet s ≠ 0 := hasPending_iff s
  have hguards : s.ime = true ∨ pendingSet s = 0 → ¬(s.ime = false ∧ s.hasPending = true) := by
    rintro (hset | hnone) ⟨hime, hp⟩
    · exact Bool.false_ne_true (hime.symm.trans hset)
    · exact hpending.1 hp hnone
  refine ⟨rfl, ?_⟩
  rcases haltCore_cases s with ⟨hhalts, he⟩ | ⟨hime, hp, hmode, he⟩ | ⟨hime, hp, hmode, he⟩
  · exact ⟨fun _ => he, fun hime hp => absurd ⟨hime, hpending.2 hp⟩ hhalts,
      fun hime hp => absurd ⟨hime, hpending.2 hp⟩ hhalts⟩
  · exact ⟨fun h => absurd ⟨hime, hp⟩ (hguards h), fun _ _ _ => he,
      fun _ _ hoff => absurd (hoff.symm.trans hmode) Bool.false_ne_true⟩
  · exact ⟨fun h => absurd ⟨hime, hp⟩ (hguards h),
      fun _ _ hon => absurd (hmode.symm.trans hon) Bool.false_ne_true, fun _ _ _ => he⟩

/-! ### EI -/

section

variable {i : Instr} {s t : State}

/-- EI is the instruction of the opcode 0xFB (30_encoding.md R108). -/
theorem opcode_eq_ei_iff : s.opcode = 0xFB ↔ s.fetched = .ei := by
  refine ⟨fun h => ?_, fun h => opcode_eq_of_fetched h⟩
  rw [State.fetched, h]
  rfl

/-- EI is the one routine that writes `ei_pending` (10_state.md R34). -/
theorem exec_eiPending_of_ne_ei (h : exec i s = .next t) (hi : i ≠ .ei) : t.eiPending = s.eiPending := by
  cases exec_answer h with
  | ordinary _ control _ =>
    obtain ⟨-, hei, -⟩ := control
    exact hei
  | unassigned | halt | haltBug | stop | di | reti => rfl
  | ei => exact absurd rfl hi

/-- A routine that starts with `ei_pending` clear sets it exactly when it is EI's (46_system.md R453). -/
theorem exec_eiPending_iff (h : exec i s = .next t) (hs : s.eiPending = false) :
    t.eiPending = true ↔ i = .ei := by
  by_cases hi : i = .ei
  · subst hi
    obtain rfl := next_inj h (enableInterrupts_next s)
    exact iff_of_true rfl rfl
  · rw [exec_eiPending_of_ne_ei h hi, hs]
    exact iff_of_false Bool.false_ne_true hi

/-- What a fetching step answers, if not a fault (30_encoding.md R110). -/
theorem step_next_of_fetches (hs : s.Fetches) (h : step s = .next t) :
    ∃ u, exec s.fetched s.routineStart = .next u ∧ u.fault = none ∧ t = s.delayedEnable u := by
  obtain ⟨-, -, ⟨hstopped, -⟩ | ⟨-, hhalted, -⟩ | ⟨-, -, hime, hpending, -⟩ | ⟨-, hrun⟩⟩ := step_cases s t h
  · exact absurd hstopped (by simp [hs.notStopped])
  · exact absurd hhalted (by simp [hs.notHalted])
  · exact absurd ⟨hime, hpending⟩ hs.noInterrupt
  · exact hrun

theorem delayedEnable_eiPending (s u : State) : (s.delayedEnable u).eiPending = u.eiPending := by
  rcases delayedEnable_cases s u with ⟨-, -, he⟩ | ⟨-, he⟩ <;> rw [he]

/-- The delayed enable sets IME, but for DI, whose routine has cleared it (46_system.md R453, R454). -/
theorem delayedEnable_ime_iff {u : State} (hei : s.eiPending = true)
    (hu : exec s.fetched s.routineStart = .next u) : (s.delayedEnable u).ime = true ↔ s.opcode ≠ 0xF3 := by
  rcases delayedEnable_cases s u with ⟨-, hop, he⟩ | ⟨hdi, he⟩ <;> rw [he]
  · exact iff_of_true rfl hop
  · have hop : s.opcode = 0xF3 := by_contra fun hop => hdi ⟨hei, hop⟩
    rw [opcode_eq_di_iff.1 hop] at hu
    obtain rfl := next_inj hu (disableInterrupts_next _)
    exact iff_of_false Bool.false_ne_true (not_not_intro hop)

/-- With no enable delayed, an EI step keeps IME (46_system.md R453). -/
theorem delayedEnable_ime_of_ei {u : State} (hei : s.eiPending = false) (hop : s.opcode = 0xFB)
    (hu : exec s.fetched s.routineStart = .next u) : (s.delayedEnable u).ime = s.ime := by
  rcases delayedEnable_cases s u with ⟨hset, -, -⟩ | ⟨-, he⟩
  · exact absurd (hei.symm.trans hset) Bool.false_ne_true
  · rw [opcode_eq_ei_iff.1 hop] at hu
    obtain rfl := next_inj hu (enableInterrupts_next _)
    rw [he]
    exact routineStart_ime s

end

/-- Settles O25: the routine of a fetching step starts with `ei_pending` consumed, and the enable that was delayed
comes after it. -/
theorem eiTakesEffectAfterTheNextInstruction : Obligations.EiTakesEffectAfterTheNextInstruction := by
  refine ⟨fun s => ⟨rfl, enableInterrupts_next s⟩, fun s t hs h => ?_⟩
  obtain ⟨u, hu, hf, rfl⟩ := step_next_of_fetches hs h
  refine ⟨?_, fun hei => delayedEnable_ime_iff hei hu, fun hei hop => delayedEnable_ime_of_ei hei hop hu⟩
  calc (s.delayedEnable u).eiPending = true
    _ ↔ u.eiPending = true := by rw [delayedEnable_eiPending]
    _ ↔ s.fetched = .ei := exec_eiPending_iff hu (quiet_routineStart hs hu hf).eiPending
    _ ↔ s.read s.pc = 0xFB := opcode_eq_ei_iff.symm

end Sys2Proof.Machine
end

section
/-! PROOFS of the exceptions family (60_exceptions.md). The order of a step's tests is said once for a loaded core
with no fault recorded (`step_of_sound`); what a step can answer (`stepOutcome`) and the suspended steps are read off
it. A dispatch is told by its two pushes and by whether they leave an interrupt pending. -/

namespace Sys2Proof.Machine

open Sys2Proof.Claims

/-! ### The host's accessors -/

/-- Settles O19, by the laws of the bus write and of `setReg`. -/
theorem hostActionsFollowTheBusRules : Obligations.HostActionsFollowTheBusRules := by
  intro s addr v r w
  exact ⟨rfl, rfl, stored_write s addr v, write_frame s addr v,
    fun hrom => write_of_not_writable s v fun ⟨hle, _, _⟩ => Nat.not_lt.2 hle hrom,
    rfl, setReg_reg s r v, regsKept_setReg s r v, setReg_f s r v, setReg_sp s r v, setReg_pc s r v,
    controlKept_setReg s r v, setReg_mem s r v, setReg_cycles s r v, rfl, rfl, rfl⟩

/-! ### The order of a step -/

section

variable {s : State}

/-- A core with no cartridge is refused (log 1). -/
theorem step_of_not_loaded (h : s.ramBanks = none) : step s = .refused .noCartridge := by
  rw [step, State.runStep, h]

/-- A recorded fault is answered before anything else (30_encoding.md R109). -/
theorem step_of_recorded_fault {f : Fault} (hb : s.ramBanks ≠ none) (hf : s.fault = some f) :
    step s = .fault f := by
  obtain ⟨n, hn⟩ := Option.ne_none_iff_exists'.1 hb
  rw [step, State.runStep, hn, hf]

/-- What a loaded core with no fault recorded tests, in order (30_encoding.md R109). -/
theorem step_of_sound (hb : s.ramBanks ≠ none) (hf : s.fault = none) :
    step s =
      if s.stopped then .next (s.charge 4)
      else if s.halted then .next s.haltedStep
      else if s.takesInterrupt then .next (s.dispatch.charge 20)
      else s.execute := by
  obtain ⟨n, hn⟩ := Option.ne_none_iff_exists'.1 hb
  rw [step, State.runStep, hn, hf]

theorem takesInterrupt_iff (s : State) : s.takesInterrupt = true ↔ s.ime = true ∧ s.pending ≠ 0 := by
  rw [State.takesInterrupt, Bool.and_eq_true, hasPending_iff]

/-! ### What a step can answer -/

/-- The answers of a step: the refusal of a core with no cartridge, the fault on record, the fault of an unassigned
byte at PC, or a next state. -/
inductive StepOutcome (s : State) : Result → Prop where
  | notLoaded (h : s.ramBanks = none) : StepOutcome s (.refused .noCartridge)
  | recorded {f : Fault} (h : s.fault = some f) : StepOutcome s (.fault f)
  | unassigned (sound : s.fault = none) (op : s.read s.pc ∈ unassignedBytes) :
      StepOutcome s (.fault (.invalidOpcode s.pc (s.read s.pc)))
  | next (t : State) : StepOutcome s (.next t)

/-- A step that fetches ends in the fault of an unassigned byte or in a next state (30_encoding.md R110). -/
theorem stepOutcome_of_fetches (hs : s.Fetches) : StepOutcome s (step s) := by
  by_cases hop : s.opcode ∈ unassignedBytes
  · rw [step_of_unassigned hs hop]
    exact .unassigned hs.sound hop
  · obtain ⟨t, -, hstep⟩ := step_of_assigned hs hop
    rw [hstep]
    exact .next _

/-- Every step answers one of these: a step that fetches no opcode, on a loaded core with no fault recorded,
completes. -/
theorem stepOutcome (s : State) : StepOutcome s (step s) := by
  by_cases hb : s.ramBanks = none
  · rw [step_of_not_loaded hb]
    exact .notLoaded hb
  cases hf : s.fault with
  | some f =>
    rw [step_of_recorded_fault hb hf]
    exact .recorded hf
  | none =>
    by_cases hfetch : s.Fetches
    · exact stepOutcome_of_fetches hfetch
    · rw [step_of_sound hb hf]
      split_ifs with hstopped hhalted hinterrupt
      · exact .next _
      · exact .next _
      · exact .next _
      · exact absurd ⟨hb, hf, Bool.eq_false_iff.2 hstopped, Bool.eq_false_iff.2 hhalted,
          mt (takesInterrupt_iff s).2 hinterrupt⟩ hfetch

/-- Settles O22, by the answers of a step. -/
theorem stepsStopOnlyOnInvalidOpcode : Obligations.StepsStopOnlyOnInvalidOpcode := by
  intro s
  refine ⟨fun f hb hf => step_of_recorded_fault hb hf, fun f h => ?_, fun r h => ?_, step_of_not_loaded⟩
  · cases h ▸ stepOutcome s with
    | recorded hf => exact .inl hf
    | unassigned sound op => exact .inr ⟨sound, rfl, op⟩
  · cases h ▸ stepOutcome s with
    | notLoaded hb => exact ⟨rfl, hb⟩

/-! ### Suspended steps -/

theorem step_of_stopped (hb : s.ramBanks ≠ none) (hf : s.fault = none) (hs : s.stopped = true) :
    step s = .next (s.charge 4) :=
  (step_of_sound hb hf).trans (if_pos hs)

theorem step_of_halted (hb : s.ramBanks ≠ none) (hf : s.fault = none) (hs : s.stopped = false)
    (hh : s.halted = true) : step s = .next s.haltedStep := by
  rw [step_of_sound hb hf, hs, hh]
  rfl

/-- A halted step with nothing pending waits (60_exceptions.md R506). -/
theorem haltedStep_of_not_pending (h : s.pending = 0) : s.haltedStep = s.charge 4 := by
  rw [State.haltedStep, if_neg ((hasPending_iff s).not_left.2 h)]

/-- A halted step with an interrupt pending wakes the core, whatever IME holds (60_exceptions.md R506). -/
theorem haltedStep_of_pending (h : s.pending ≠ 0) :
    s.haltedStep = { s with halted := false, cycles := s.cycles + 4 } := by
  rw [State.haltedStep, if_pos ((hasPending_iff s).2 h)]
  rfl

end

/-- Settles O23, by the stopped step and the two cases of the halted step. -/
theorem suspendedSteps : Obligations.SuspendedSteps := by
  refine ⟨fun s => step_of_stopped, fun s hb hf hs hh => ⟨fun hp => ?_, fun hp => ?_⟩, fun s => rfl⟩
  · exact (step_of_halted hb hf hs hh).trans (congrArg _ (haltedStep_of_not_pending hp))
  · exact (step_of_halted hb hf hs hh).trans (congrArg _ (haltedStep_of_pending hp))

/-! ### Taking an interrupt -/

/-- The state once a dispatch has stored the high byte, when the pending set is read again (60_exceptions.md R503);
SP is moved by `enterHandler`. -/
def State.highPushed (s : State) : State := s.write (s.sp - 1) (hiByte s.returnAddress)

/-- The state once a dispatch has stored both bytes of the return address. -/
def State.bothPushed (s : State) : State := s.highPushed.write (s.sp - 2) (loByte s.returnAddress)

/-- The IF bit of source `n` cleared, and no other (60_exceptions.md R504). -/
def State.acknowledge (s : State) (n : Nat) : State := s.write addrIF (s.read addrIF &&& ~~~(1#8 <<< n))

/-- Control passed to a handler at `pc`: SP as the pushes leave it, IME and the latches cleared. -/
def State.enterHandler (s : State) (sp pc : Word) : State :=
  { s with ime := false, eiPending := false, haltBug := false, sp := sp, pc := pc }

section

variable {s : State}

/-- A dispatch that its own push cancels goes to 0x0000 and keeps IF (60_exceptions.md R503). -/
theorem dispatch_of_cancelled (h : s.highPushed.pending = 0) :
    s.dispatch = s.bothPushed.enterHandler (s.sp - 2) 0x0000 := by
  rw [State.highPushed] at h
  rw [dispatch_eq]
  simp only [h, if_true]
  rfl

/-- Any other dispatch acknowledges the lowest source and goes to its vector (60_exceptions.md R503 to R505). -/
theorem dispatch_of_pending (h : s.highPushed.pending ≠ 0) :
    s.dispatch =
      (s.bothPushed.acknowledge (lowestSource s.highPushed.pending)).enterHandler (s.sp - 2)
        (vector (lowestSource s.highPushed.pending)) := by
  rw [State.highPushed] at h
  rw [dispatch_eq]
  simp only [h, if_false]
  rfl

/-- A store changes memory alone, so it keeps what earlier stores kept. -/
theorem write_frame_of_frame {u : State} (h : { u with mem := s.mem } = s) (addr : Word) (v : Byte) :
    { u.write addr v with mem := s.mem } = s :=
  (congrArg (fun w : State => { w with mem := s.mem }) (write_frame u addr v)).trans h

theorem bothPushed_frame (s : State) : { s.bothPushed with mem := s.mem } = s :=
  write_frame_of_frame (write_frame s _ _) _ _

theorem enterHandler_frame {u : State} (h : { u with mem := s.mem } = s) (sp pc : Word) :
    { u.enterHandler sp pc with mem := s.mem } = s.enterHandler sp pc :=
  congrArg (State.enterHandler · sp pc) h

/-- The frame of a dispatch: but for memory and the address of the handler, it has SP down by two, IME and the
latches cleared and every other field kept. -/
theorem dispatch_frame (s : State) :
    { s.dispatch with mem := s.mem } = s.enterHandler (s.sp - 2) s.dispatch.pc := by
  by_cases h : s.highPushed.pending = 0
  · rw [dispatch_of_cancelled h]
    exact enterHandler_frame (bothPushed_frame s) _ _
  · rw [dispatch_of_pending h]
    exact enterHandler_frame (write_frame_of_frame (bothPushed_frame s) _ _) _ _

theorem enterHandler_read (s : State) (sp pc addr : Word) : (s.enterHandler sp pc).read addr = s.read addr :=
  rfl

theorem vector_toNat (n : Fin 5) : (vector n.val).toNat = 0x0040 + 8 * n.val := by
  rw [vector, BitVec.toNat_ofNat, Nat.mod_eq_of_lt (by omega)]

end

theorem dispatch_sp (s : State) : s.dispatch.sp = s.sp - 2 := (congrArg State.sp (dispatch_frame s) :)
theorem dispatch_f (s : State) : s.dispatch.f = s.f := (congrArg State.f (dispatch_frame s) :)
theorem dispatch_fault (s : State) : s.dispatch.fault = s.fault := (congrArg State.fault (dispatch_frame s) :)

theorem regsKept_dispatch (s : State) : RegsKept [] s s.dispatch :=
  fun r _ => (congrArg (State.reg · r) (dispatch_frame s) :)

/-- Memory and PC after a dispatch that its own push cancels (60_exceptions.md R503). -/
theorem dispatch_cancelled_answer {s : State} (h : s.highPushed.pending = 0) :
    s.dispatch.pc = 0x0000 ∧ MemoryKept s.bothPushed s.dispatch := by
  rw [dispatch_of_cancelled h]
  exact ⟨rfl, enterHandler_read _ _ _⟩

/-- Memory and PC after a dispatch of source `n`, the lowest one pending (60_exceptions.md R504, R505). -/
theorem dispatch_source_answer {s : State} {n : Fin 5} (hn : s.highPushed.pending.getLsbD n = true)
    (hlow : ∀ m : Fin 5, m < n → s.highPushed.pending.getLsbD m = false) :
    s.dispatch.pc.toNat = 0x0040 + 8 * n.val ∧
      Stored addrIF (s.bothPushed.read addrIF &&& ~~~(1#8 <<< n.val)) s.bothPushed s.dispatch := by
  have hpending : s.highPushed.pending ≠ 0 := by
    intro h
    simp [h] at hn
  rw [dispatch_of_pending hpending, lowestSource_spec _ n hn hlow]
  exact ⟨vector_toNat n, (stored_write _ _ _).of_memoryKept (enterHandler_read _ _ _)⟩

/-- Settles O24: what a dispatch writes of the control state and keeps of the rest is in its laws and its frame; memory
and PC are told by its two cases. -/
theorem interruptDispatch : Obligations.InterruptDispatch := by
  intro s hb hf hs hh hi hp ret high low
  obtain ⟨hime, hei, hbug, hhalted, hstopped, hcycles⟩ := dispatch_control s
  have keeps := keeps_dispatch s
  exact ⟨s.dispatch.charge 20, step_of_interrupt s hb hf hs hh hi hp, dispatch_sp s, hime, hei, hbug,
    hhalted.trans hh, hstopped.trans hs, (dispatch_fault s).trans hf, keeps.banks, keeps.bugMode,
    fun r hr => (charge_reg _ 20 r).trans (regsKept_dispatch s r hr), dispatch_f s, congrArg (· + 20) hcycles,
    dispatch_cancelled_answer, fun _ => dispatch_source_answer⟩

end Sys2Proof.Machine
end
